-- ==== Sys2Proof/Word.lean ====
section
/-! DEFINITION. The two machine words of the iron-boy CORE (spec/00_scope.md R7, R12). -/

namespace Sys2Proof

/-- An 8-bit unsigned value: a register, a memory cell, an immediate (R7: `XLEN = 8`). -/
abbrev Byte := BitVec 8

/-- A 16-bit unsigned value: an address, a pair, `sp`, `pc` (R7: `ALEN = 16`). -/
abbrev Word := BitVec 16

end Sys2Proof
end

