-- ==== Sys2Proof/Machine/Bits.lean ====
section
/-! DEFINITION. Bit fields, byte order and sign extension (spec/00_scope.md R12, R14). -/

namespace Sys2Proof.Machine

/-- Bit `i` of a byte, `v[i]` (R12). -/
def bit (v : Byte) (i : Nat) : Bool := v.getLsbD i

/-- Bit `i` of a 16-bit value (R12). -/
def bitW (v : Word) (i : Nat) : Bool := v.getLsbD i

/-- A byte whose only possibly set bit is bit `i` (used as `b << i` in the register read rules). -/
def bitAt (b : Bool) (i : Nat) : Byte := if b then 1#8 <<< i else 0#8

/-- `v[15:8]`. -/
def hiByte (v : Word) : Byte := v.extractLsb' 8 8

/-- `v[7:0]`. -/
def loByte (v : Word) : Byte := v.extractLsb' 0 8

/-- `hi :: lo` (R12). -/
def joinBytes (hi lo : Byte) : Word := hi ++ lo

/-- `zext_16` (R14). -/
def zext16 (v : Byte) : Word := v.setWidth 16

/-- `sext_16(b) = if b[7] = 1 then 0xFF00 | b else b` (R14). -/
def sext16 (v : Byte) : Word := if bit v 7 then 0xFF00#16 ||| zext16 v else zext16 v

/-- A byte read as two's complement (R441). -/
def signed8 (v : Byte) : Int := if v.toNat < 128 then (v.toNat : Int) else (v.toNat : Int) - 256

/-- 0 or 1, as a number. -/
def carryIn (c : Bool) : Nat := if c then 1 else 0

end Sys2Proof.Machine
end

