-- ==== Sys2Proof/Syntax.lean ====
section
/-! DEFINITION. The instruction set as syntax: one constructor per row of spec/opcode_table.json
(spec/30_encoding.md R163, R164, R166), the operand names, and the families of rows that share a rule. -/

namespace Sys2Proof

/-- The seven byte registers an `r` field names (R144; the value 6 is `(HL)` and is not a register). -/
inductive Reg8 where
  | b | c | d | e | h | l | a
deriving DecidableEq, Repr

/-- The pairs of the field `rr` (R145). -/
inductive Pair where
  | bc | de | hl | sp
deriving DecidableEq, Repr

/-- The pairs of the field `rr2` (R146). -/
inductive StackPair where
  | bc | de | hl | af
deriving DecidableEq, Repr

/-- The conditions of the field `cc` (R147). -/
inductive Cond where
  | nz | z | nc | c
deriving DecidableEq, Repr

/-- The ALU operations (R148). -/
inductive AluOp where
  | add | adc | sub | sbc | and | xor | or | cp
deriving DecidableEq, Repr

/-- The rotate, shift and swap operations of the extended table (R149). -/
inductive RotOp where
  | rlc | rrc | rl | rr | sla | sra | swap | srl
deriving DecidableEq, Repr

/-- Every row of the table: first the rows with an immediate (or padding) byte, then the others, each group in
the table's order (the compiler gives constructors that carry data only the low tags). The name is the row's mnemonic in lower case with
`at` for parentheses, `HLI`/`HLD` for `HL+`/`HL-`. Immediates are the raw bytes of the instruction (R152):
`n8`, `e8` (read as two's complement where it is used), `n16` (`byte 2 :: byte 1`), and STOP's ignored
padding byte (R160). `prefixCB` is the row 0xCB alone (R326), which is not a whole instruction. -/
inductive Instr where
  | ld_BC_n16 (n16 : Word)
  | ld_B_n8 (n8 : Byte)
  | ld_atN16_SP (n16 : Word)
  | ld_C_n8 (n8 : Byte)
  | stop (pad : Byte)
  | ld_DE_n16 (n16 : Word)
  | ld_D_n8 (n8 : Byte)
  | jr_e8 (e8 : Byte)
  | ld_E_n8 (n8 : Byte)
  | jr_NZ_e8 (e8 : Byte)
  | ld_HL_n16 (n16 : Word)
  | ld_H_n8 (n8 : Byte)
  | jr_Z_e8 (e8 : Byte)
  | ld_L_n8 (n8 : Byte)
  | jr_NC_e8 (e8 : Byte)
  | ld_SP_n16 (n16 : Word)
  | ld_atHL_n8 (n8 : Byte)
  | jr_C_e8 (e8 : Byte)
  | ld_A_n8 (n8 : Byte)
  | jp_NZ_n16 (n16 : Word)
  | jp_n16 (n16 : Word)
  | call_NZ_n16 (n16 : Word)
  | add_A_n8 (n8 : Byte)
  | jp_Z_n16 (n16 : Word)
  | call_Z_n16 (n16 : Word)
  | call_n16 (n16 : Word)
  | adc_A_n8 (n8 : Byte)
  | jp_NC_n16 (n16 : Word)
  | call_NC_n16 (n16 : Word)
  | sub_n8 (n8 : Byte)
  | jp_C_n16 (n16 : Word)
  | call_C_n16 (n16 : Word)
  | sbc_A_n8 (n8 : Byte)
  | ldh_atN8_A (n8 : Byte)
  | and_n8 (n8 : Byte)
  | add_SP_e8 (e8 : Byte)
  | ld_atN16_A (n16 : Word)
  | xor_n8 (n8 : Byte)
  | ldh_A_atN8 (n8 : Byte)
  | or_n8 (n8 : Byte)
  | ld_HL_SP_e8 (e8 : Byte)
  | ld_A_atN16 (n16 : Word)
  | cp_n8 (n8 : Byte)
  | nop
  | ld_atBC_A
  | inc_BC
  | inc_B
  | dec_B
  | rlca
  | add_HL_BC
  | ld_A_atBC
  | dec_BC
  | inc_C
  | dec_C
  | rrca
  | ld_atDE_A
  | inc_DE
  | inc_D
  | dec_D
  | rla
  | add_HL_DE
  | ld_A_atDE
  | dec_DE
  | inc_E
  | dec_E
  | rra
  | ld_atHLI_A
  | inc_HL
  | inc_H
  | dec_H
  | daa
  | add_HL_HL
  | ld_A_atHLI
  | dec_HL
  | inc_L
  | dec_L
  | cpl
  | ld_atHLD_A
  | inc_SP
  | inc_atHL
  | dec_atHL
  | scf
  | add_HL_SP
  | ld_A_atHLD
  | dec_SP
  | inc_A
  | dec_A
  | ccf
  | ld_B_B
  | ld_B_C
  | ld_B_D
  | ld_B_E
  | ld_B_H
  | ld_B_L
  | ld_B_atHL
  | ld_B_A
  | ld_C_B
  | ld_C_C
  | ld_C_D
  | ld_C_E
  | ld_C_H
  | ld_C_L
  | ld_C_atHL
  | ld_C_A
  | ld_D_B
  | ld_D_C
  | ld_D_D
  | ld_D_E
  | ld_D_H
  | ld_D_L
  | ld_D_atHL
  | ld_D_A
  | ld_E_B
  | ld_E_C
  | ld_E_D
  | ld_E_E
  | ld_E_H
  | ld_E_L
  | ld_E_atHL
  | ld_E_A
  | ld_H_B
  | ld_H_C
  | ld_H_D
  | ld_H_E
  | ld_H_H
  | ld_H_L
  | ld_H_atHL
  | ld_H_A
  | ld_L_B
  | ld_L_C
  | ld_L_D
  | ld_L_E
  | ld_L_H
  | ld_L_L
  | ld_L_atHL
  | ld_L_A
  | ld_atHL_B
  | ld_atHL_C
  | ld_atHL_D
  | ld_atHL_E
  | ld_atHL_H
  | ld_atHL_L
  | halt
  | ld_atHL_A
  | ld_A_B
  | ld_A_C
  | ld_A_D
  | ld_A_E
  | ld_A_H
  | ld_A_L
  | ld_A_atHL
  | ld_A_A
  | add_A_B
  | add_A_C
  | add_A_D
  | add_A_E
  | add_A_H
  | add_A_L
  | add_A_atHL
  | add_A_A
  | adc_A_B
  | adc_A_C
  | adc_A_D
  | adc_A_E
  | adc_A_H
  | adc_A_L
  | adc_A_atHL
  | adc_A_A
  | sub_B
  | sub_C
  | sub_D
  | sub_E
  | sub_H
  | sub_L
  | sub_atHL
  | sub_A
  | sbc_A_B
  | sbc_A_C
  | sbc_A_D
  | sbc_A_E
  | sbc_A_H
  | sbc_A_L
  | sbc_A_atHL
  | sbc_A_A
  | and_B
  | and_C
  | and_D
  | and_E
  | and_H
  | and_L
  | and_atHL
  | and_A
  | xor_B
  | xor_C
  | xor_D
  | xor_E
  | xor_H
  | xor_L
  | xor_atHL
  | xor_A
  | or_B
  | or_C
  | or_D
  | or_E
  | or_H
  | or_L
  | or_atHL
  | or_A
  | cp_B
  | cp_C
  | cp_D
  | cp_E
  | cp_H
  | cp_L
  | cp_atHL
  | cp_A
  | ret_NZ
  | pop_BC
  | push_BC
  | rst_00
  | ret_Z
  | ret
  | prefixCB
  | rst_08
  | ret_NC
  | pop_DE
  | illegal_D3
  | push_DE
  | rst_10
  | ret_C
  | reti
  | illegal_DB
  | illegal_DD
  | rst_18
  | pop_HL
  | ldh_atC_A
  | illegal_E3
  | illegal_E4
  | push_HL
  | rst_20
  | jp_HL
  | illegal_EB
  | illegal_EC
  | illegal_ED
  | rst_28
  | pop_AF
  | ldh_A_atC
  | di
  | illegal_F4
  | push_AF
  | rst_30
  | ld_SP_HL
  | ei
  | illegal_FC
  | illegal_FD
  | rst_38
  | rlc_B
  | rlc_C
  | rlc_D
  | rlc_E
  | rlc_H
  | rlc_L
  | rlc_atHL
  | rlc_A
  | rrc_B
  | rrc_C
  | rrc_D
  | rrc_E
  | rrc_H
  | rrc_L
  | rrc_atHL
  | rrc_A
  | rl_B
  | rl_C
  | rl_D
  | rl_E
  | rl_H
  | rl_L
  | rl_atHL
  | rl_A
  | rr_B
  | rr_C
  | rr_D
  | rr_E
  | rr_H
  | rr_L
  | rr_atHL
  | rr_A
  | sla_B
  | sla_C
  | sla_D
  | sla_E
  | sla_H
  | sla_L
  | sla_atHL
  | sla_A
  | sra_B
  | sra_C
  | sra_D
  | sra_E
  | sra_H
  | sra_L
  | sra_atHL
  | sra_A
  | swap_B
  | swap_C
  | swap_D
  | swap_E
  | swap_H
  | swap_L
  | swap_atHL
  | swap_A
  | srl_B
  | srl_C
  | srl_D
  | srl_E
  | srl_H
  | srl_L
  | srl_atHL
  | srl_A
  | bit_0_B
  | bit_0_C
  | bit_0_D
  | bit_0_E
  | bit_0_H
  | bit_0_L
  | bit_0_atHL
  | bit_0_A
  | bit_1_B
  | bit_1_C
  | bit_1_D
  | bit_1_E
  | bit_1_H
  | bit_1_L
  | bit_1_atHL
  | bit_1_A
  | bit_2_B
  | bit_2_C
  | bit_2_D
  | bit_2_E
  | bit_2_H
  | bit_2_L
  | bit_2_atHL
  | bit_2_A
  | bit_3_B
  | bit_3_C
  | bit_3_D
  | bit_3_E
  | bit_3_H
  | bit_3_L
  | bit_3_atHL
  | bit_3_A
  | bit_4_B
  | bit_4_C
  | bit_4_D
  | bit_4_E
  | bit_4_H
  | bit_4_L
  | bit_4_atHL
  | bit_4_A
  | bit_5_B
  | bit_5_C
  | bit_5_D
  | bit_5_E
  | bit_5_H
  | bit_5_L
  | bit_5_atHL
  | bit_5_A
  | bit_6_B
  | bit_6_C
  | bit_6_D
  | bit_6_E
  | bit_6_H
  | bit_6_L
  | bit_6_atHL
  | bit_6_A
  | bit_7_B
  | bit_7_C
  | bit_7_D
  | bit_7_E
  | bit_7_H
  | bit_7_L
  | bit_7_atHL
  | bit_7_A
  | res_0_B
  | res_0_C
  | res_0_D
  | res_0_E
  | res_0_H
  | res_0_L
  | res_0_atHL
  | res_0_A
  | res_1_B
  | res_1_C
  | res_1_D
  | res_1_E
  | res_1_H
  | res_1_L
  | res_1_atHL
  | res_1_A
  | res_2_B
  | res_2_C
  | res_2_D
  | res_2_E
  | res_2_H
  | res_2_L
  | res_2_atHL
  | res_2_A
  | res_3_B
  | res_3_C
  | res_3_D
  | res_3_E
  | res_3_H
  | res_3_L
  | res_3_atHL
  | res_3_A
  | res_4_B
  | res_4_C
  | res_4_D
  | res_4_E
  | res_4_H
  | res_4_L
  | res_4_atHL
  | res_4_A
  | res_5_B
  | res_5_C
  | res_5_D
  | res_5_E
  | res_5_H
  | res_5_L
  | res_5_atHL
  | res_5_A
  | res_6_B
  | res_6_C
  | res_6_D
  | res_6_E
  | res_6_H
  | res_6_L
  | res_6_atHL
  | res_6_A
  | res_7_B
  | res_7_C
  | res_7_D
  | res_7_E
  | res_7_H
  | res_7_L
  | res_7_atHL
  | res_7_A
  | set_0_B
  | set_0_C
  | set_0_D
  | set_0_E
  | set_0_H
  | set_0_L
  | set_0_atHL
  | set_0_A
  | set_1_B
  | set_1_C
  | set_1_D
  | set_1_E
  | set_1_H
  | set_1_L
  | set_1_atHL
  | set_1_A
  | set_2_B
  | set_2_C
  | set_2_D
  | set_2_E
  | set_2_H
  | set_2_L
  | set_2_atHL
  | set_2_A
  | set_3_B
  | set_3_C
  | set_3_D
  | set_3_E
  | set_3_H
  | set_3_L
  | set_3_atHL
  | set_3_A
  | set_4_B
  | set_4_C
  | set_4_D
  | set_4_E
  | set_4_H
  | set_4_L
  | set_4_atHL
  | set_4_A
  | set_5_B
  | set_5_C
  | set_5_D
  | set_5_E
  | set_5_H
  | set_5_L
  | set_5_atHL
  | set_5_A
  | set_6_B
  | set_6_C
  | set_6_D
  | set_6_E
  | set_6_H
  | set_6_L
  | set_6_atHL
  | set_6_A
  | set_7_B
  | set_7_C
  | set_7_D
  | set_7_E
  | set_7_H
  | set_7_L
  | set_7_atHL
  | set_7_A
deriving DecidableEq, Repr

/-! Families: the rows that share one rule, named by their operand fields. -/

namespace Instr

/-- `LD r,r'` (R171). -/
def ldRegReg : Reg8 → Reg8 → Instr
  | .b, .b => .ld_B_B | .b, .c => .ld_B_C | .b, .d => .ld_B_D | .b, .e => .ld_B_E | .b, .h => .ld_B_H | .b, .l => .ld_B_L | .b, .a => .ld_B_A
  | .c, .b => .ld_C_B | .c, .c => .ld_C_C | .c, .d => .ld_C_D | .c, .e => .ld_C_E | .c, .h => .ld_C_H | .c, .l => .ld_C_L | .c, .a => .ld_C_A
  | .d, .b => .ld_D_B | .d, .c => .ld_D_C | .d, .d => .ld_D_D | .d, .e => .ld_D_E | .d, .h => .ld_D_H | .d, .l => .ld_D_L | .d, .a => .ld_D_A
  | .e, .b => .ld_E_B | .e, .c => .ld_E_C | .e, .d => .ld_E_D | .e, .e => .ld_E_E | .e, .h => .ld_E_H | .e, .l => .ld_E_L | .e, .a => .ld_E_A
  | .h, .b => .ld_H_B | .h, .c => .ld_H_C | .h, .d => .ld_H_D | .h, .e => .ld_H_E | .h, .h => .ld_H_H | .h, .l => .ld_H_L | .h, .a => .ld_H_A
  | .l, .b => .ld_L_B | .l, .c => .ld_L_C | .l, .d => .ld_L_D | .l, .e => .ld_L_E | .l, .h => .ld_L_H | .l, .l => .ld_L_L | .l, .a => .ld_L_A
  | .a, .b => .ld_A_B | .a, .c => .ld_A_C | .a, .d => .ld_A_D | .a, .e => .ld_A_E | .a, .h => .ld_A_H | .a, .l => .ld_A_L | .a, .a => .ld_A_A

/-- `LD r,n8` (R172). -/
def ldRegImm : Reg8 → Byte → Instr
  | .b, n => .ld_B_n8 n
  | .c, n => .ld_C_n8 n
  | .d, n => .ld_D_n8 n
  | .e, n => .ld_E_n8 n
  | .h, n => .ld_H_n8 n
  | .l, n => .ld_L_n8 n
  | .a, n => .ld_A_n8 n

/-- `LD r,(HL)` (R173). -/
def ldRegAtHL : Reg8 → Instr
  | .b => .ld_B_atHL
  | .c => .ld_C_atHL
  | .d => .ld_D_atHL
  | .e => .ld_E_atHL
  | .h => .ld_H_atHL
  | .l => .ld_L_atHL
  | .a => .ld_A_atHL

/-- `LD (HL),r` (R174). -/
def ldAtHLReg : Reg8 → Instr
  | .b => .ld_atHL_B
  | .c => .ld_atHL_C
  | .d => .ld_atHL_D
  | .e => .ld_atHL_E
  | .h => .ld_atHL_H
  | .l => .ld_atHL_L
  | .a => .ld_atHL_A

/-- The ALU operation with a register operand (R155). -/
def aluReg : AluOp → Reg8 → Instr
  | .add, .b => .add_A_B | .add, .c => .add_A_C | .add, .d => .add_A_D | .add, .e => .add_A_E | .add, .h => .add_A_H | .add, .l => .add_A_L | .add, .a => .add_A_A
  | .adc, .b => .adc_A_B | .adc, .c => .adc_A_C | .adc, .d => .adc_A_D | .adc, .e => .adc_A_E | .adc, .h => .adc_A_H | .adc, .l => .adc_A_L | .adc, .a => .adc_A_A
  | .sub, .b => .sub_B | .sub, .c => .sub_C | .sub, .d => .sub_D | .sub, .e => .sub_E | .sub, .h => .sub_H | .sub, .l => .sub_L | .sub, .a => .sub_A
  | .sbc, .b => .sbc_A_B | .sbc, .c => .sbc_A_C | .sbc, .d => .sbc_A_D | .sbc, .e => .sbc_A_E | .sbc, .h => .sbc_A_H | .sbc, .l => .sbc_A_L | .sbc, .a => .sbc_A_A
  | .and, .b => .and_B | .and, .c => .and_C | .and, .d => .and_D | .and, .e => .and_E | .and, .h => .and_H | .and, .l => .and_L | .and, .a => .and_A
  | .xor, .b => .xor_B | .xor, .c => .xor_C | .xor, .d => .xor_D | .xor, .e => .xor_E | .xor, .h => .xor_H | .xor, .l => .xor_L | .xor, .a => .xor_A
  | .or, .b => .or_B | .or, .c => .or_C | .or, .d => .or_D | .or, .e => .or_E | .or, .h => .or_H | .or, .l => .or_L | .or, .a => .or_A
  | .cp, .b => .cp_B | .cp, .c => .cp_C | .cp, .d => .cp_D | .cp, .e => .cp_E | .cp, .h => .cp_H | .cp, .l => .cp_L | .cp, .a => .cp_A

/-- The ALU operation with the byte at `(HL)` (R155). -/
def aluAtHL : AluOp → Instr
  | .add => .add_A_atHL
  | .adc => .adc_A_atHL
  | .sub => .sub_atHL
  | .sbc => .sbc_A_atHL
  | .and => .and_atHL
  | .xor => .xor_atHL
  | .or => .or_atHL
  | .cp => .cp_atHL

/-- The ALU operation with an immediate (R156). -/
def aluImm : AluOp → Byte → Instr
  | .add, n => .add_A_n8 n
  | .adc, n => .adc_A_n8 n
  | .sub, n => .sub_n8 n
  | .sbc, n => .sbc_A_n8 n
  | .and, n => .and_n8 n
  | .xor, n => .xor_n8 n
  | .or, n => .or_n8 n
  | .cp, n => .cp_n8 n

/-- `INC r` (R241). -/
def incReg : Reg8 → Instr
  | .b => .inc_B
  | .c => .inc_C
  | .d => .inc_D
  | .e => .inc_E
  | .h => .inc_H
  | .l => .inc_L
  | .a => .inc_A

/-- `DEC r` (R243). -/
def decReg : Reg8 → Instr
  | .b => .dec_B
  | .c => .dec_C
  | .d => .dec_D
  | .e => .dec_E
  | .h => .dec_H
  | .l => .dec_L
  | .a => .dec_A

/-- `LD rr,n16` (R201). -/
def ldPairImm : Pair → Word → Instr
  | .bc, n => .ld_BC_n16 n
  | .de, n => .ld_DE_n16 n
  | .hl, n => .ld_HL_n16 n
  | .sp, n => .ld_SP_n16 n

/-- `ADD HL,rr` (R261). -/
def addHLPair : Pair → Instr
  | .bc => .add_HL_BC
  | .de => .add_HL_DE
  | .hl => .add_HL_HL
  | .sp => .add_HL_SP

/-- `INC rr` (R262). -/
def incPair : Pair → Instr
  | .bc => .inc_BC
  | .de => .inc_DE
  | .hl => .inc_HL
  | .sp => .inc_SP

/-- `DEC rr` (R263). -/
def decPair : Pair → Instr
  | .bc => .dec_BC
  | .de => .dec_DE
  | .hl => .dec_HL
  | .sp => .dec_SP

/-- `PUSH rr2` (R205). -/
def pushPair : StackPair → Instr
  | .bc => .push_BC
  | .de => .push_DE
  | .hl => .push_HL
  | .af => .push_AF

/-- `POP rr2` (R206, R207). -/
def popPair : StackPair → Instr
  | .bc => .pop_BC
  | .de => .pop_DE
  | .hl => .pop_HL
  | .af => .pop_AF

/-- `JR cc,e8` (R305). -/
def jrCond : Cond → Byte → Instr
  | .nz, n => .jr_NZ_e8 n
  | .z, n => .jr_Z_e8 n
  | .nc, n => .jr_NC_e8 n
  | .c, n => .jr_C_e8 n

/-- `JP cc,n16` (R302). -/
def jpCond : Cond → Word → Instr
  | .nz, n => .jp_NZ_n16 n
  | .z, n => .jp_Z_n16 n
  | .nc, n => .jp_NC_n16 n
  | .c, n => .jp_C_n16 n

/-- `CALL cc,n16` (R307). -/
def callCond : Cond → Word → Instr
  | .nz, n => .call_NZ_n16 n
  | .z, n => .call_Z_n16 n
  | .nc, n => .call_NC_n16 n
  | .c, n => .call_C_n16 n

/-- `RET cc` (R309). -/
def retCond : Cond → Instr
  | .nz => .ret_NZ
  | .z => .ret_Z
  | .nc => .ret_NC
  | .c => .ret_C

/-- `RST t` with `t = 8 * y` (R311). -/
def rst : Fin 8 → Instr
  | 0 => .rst_00
  | 1 => .rst_08
  | 2 => .rst_10
  | 3 => .rst_18
  | 4 => .rst_20
  | 5 => .rst_28
  | 6 => .rst_30
  | 7 => .rst_38

/-- The rotate, shift and swap operations on a register (R275 to R289). -/
def rotReg : RotOp → Reg8 → Instr
  | .rlc, .b => .rlc_B | .rlc, .c => .rlc_C | .rlc, .d => .rlc_D | .rlc, .e => .rlc_E | .rlc, .h => .rlc_H | .rlc, .l => .rlc_L | .rlc, .a => .rlc_A
  | .rrc, .b => .rrc_B | .rrc, .c => .rrc_C | .rrc, .d => .rrc_D | .rrc, .e => .rrc_E | .rrc, .h => .rrc_H | .rrc, .l => .rrc_L | .rrc, .a => .rrc_A
  | .rl, .b => .rl_B | .rl, .c => .rl_C | .rl, .d => .rl_D | .rl, .e => .rl_E | .rl, .h => .rl_H | .rl, .l => .rl_L | .rl, .a => .rl_A
  | .rr, .b => .rr_B | .rr, .c => .rr_C | .rr, .d => .rr_D | .rr, .e => .rr_E | .rr, .h => .rr_H | .rr, .l => .rr_L | .rr, .a => .rr_A
  | .sla, .b => .sla_B | .sla, .c => .sla_C | .sla, .d => .sla_D | .sla, .e => .sla_E | .sla, .h => .sla_H | .sla, .l => .sla_L | .sla, .a => .sla_A
  | .sra, .b => .sra_B | .sra, .c => .sra_C | .sra, .d => .sra_D | .sra, .e => .sra_E | .sra, .h => .sra_H | .sra, .l => .sra_L | .sra, .a => .sra_A
  | .swap, .b => .swap_B | .swap, .c => .swap_C | .swap, .d => .swap_D | .swap, .e => .swap_E | .swap, .h => .swap_H | .swap, .l => .swap_L | .swap, .a => .swap_A
  | .srl, .b => .srl_B | .srl, .c => .srl_C | .srl, .d => .srl_D | .srl, .e => .srl_E | .srl, .h => .srl_H | .srl, .l => .srl_L | .srl, .a => .srl_A

/-- The rotate, shift and swap operations on `(HL)` (R276 to R290). -/
def rotAtHL : RotOp → Instr
  | .rlc => .rlc_atHL
  | .rrc => .rrc_atHL
  | .rl => .rl_atHL
  | .rr => .rr_atHL
  | .sla => .sla_atHL
  | .sra => .sra_atHL
  | .swap => .swap_atHL
  | .srl => .srl_atHL

/-- `BIT b,r` (R291). -/
def bitReg : Fin 8 → Reg8 → Instr
  | 0, .b => .bit_0_B | 0, .c => .bit_0_C | 0, .d => .bit_0_D | 0, .e => .bit_0_E | 0, .h => .bit_0_H | 0, .l => .bit_0_L | 0, .a => .bit_0_A
  | 1, .b => .bit_1_B | 1, .c => .bit_1_C | 1, .d => .bit_1_D | 1, .e => .bit_1_E | 1, .h => .bit_1_H | 1, .l => .bit_1_L | 1, .a => .bit_1_A
  | 2, .b => .bit_2_B | 2, .c => .bit_2_C | 2, .d => .bit_2_D | 2, .e => .bit_2_E | 2, .h => .bit_2_H | 2, .l => .bit_2_L | 2, .a => .bit_2_A
  | 3, .b => .bit_3_B | 3, .c => .bit_3_C | 3, .d => .bit_3_D | 3, .e => .bit_3_E | 3, .h => .bit_3_H | 3, .l => .bit_3_L | 3, .a => .bit_3_A
  | 4, .b => .bit_4_B | 4, .c => .bit_4_C | 4, .d => .bit_4_D | 4, .e => .bit_4_E | 4, .h => .bit_4_H | 4, .l => .bit_4_L | 4, .a => .bit_4_A
  | 5, .b => .bit_5_B | 5, .c => .bit_5_C | 5, .d => .bit_5_D | 5, .e => .bit_5_E | 5, .h => .bit_5_H | 5, .l => .bit_5_L | 5, .a => .bit_5_A
  | 6, .b => .bit_6_B | 6, .c => .bit_6_C | 6, .d => .bit_6_D | 6, .e => .bit_6_E | 6, .h => .bit_6_H | 6, .l => .bit_6_L | 6, .a => .bit_6_A
  | 7, .b => .bit_7_B | 7, .c => .bit_7_C | 7, .d => .bit_7_D | 7, .e => .bit_7_E | 7, .h => .bit_7_H | 7, .l => .bit_7_L | 7, .a => .bit_7_A

/-- `BIT b,(HL)` (R292). -/
def bitAtHL : Fin 8 → Instr
  | 0 => .bit_0_atHL
  | 1 => .bit_1_atHL
  | 2 => .bit_2_atHL
  | 3 => .bit_3_atHL
  | 4 => .bit_4_atHL
  | 5 => .bit_5_atHL
  | 6 => .bit_6_atHL
  | 7 => .bit_7_atHL

/-- `RES b,r` (R293). -/
def resReg : Fin 8 → Reg8 → Instr
  | 0, .b => .res_0_B | 0, .c => .res_0_C | 0, .d => .res_0_D | 0, .e => .res_0_E | 0, .h => .res_0_H | 0, .l => .res_0_L | 0, .a => .res_0_A
  | 1, .b => .res_1_B | 1, .c => .res_1_C | 1, .d => .res_1_D | 1, .e => .res_1_E | 1, .h => .res_1_H | 1, .l => .res_1_L | 1, .a => .res_1_A
  | 2, .b => .res_2_B | 2, .c => .res_2_C | 2, .d => .res_2_D | 2, .e => .res_2_E | 2, .h => .res_2_H | 2, .l => .res_2_L | 2, .a => .res_2_A
  | 3, .b => .res_3_B | 3, .c => .res_3_C | 3, .d => .res_3_D | 3, .e => .res_3_E | 3, .h => .res_3_H | 3, .l => .res_3_L | 3, .a => .res_3_A
  | 4, .b => .res_4_B | 4, .c => .res_4_C | 4, .d => .res_4_D | 4, .e => .res_4_E | 4, .h => .res_4_H | 4, .l => .res_4_L | 4, .a => .res_4_A
  | 5, .b => .res_5_B | 5, .c => .res_5_C | 5, .d => .res_5_D | 5, .e => .res_5_E | 5, .h => .res_5_H | 5, .l => .res_5_L | 5, .a => .res_5_A
  | 6, .b => .res_6_B | 6, .c => .res_6_C | 6, .d => .res_6_D | 6, .e => .res_6_E | 6, .h => .res_6_H | 6, .l => .res_6_L | 6, .a => .res_6_A
  | 7, .b => .res_7_B | 7, .c => .res_7_C | 7, .d => .res_7_D | 7, .e => .res_7_E | 7, .h => .res_7_H | 7, .l => .res_7_L | 7, .a => .res_7_A

/-- `RES b,(HL)` (R294). -/
def resAtHL : Fin 8 → Instr
  | 0 => .res_0_atHL
  | 1 => .res_1_atHL
  | 2 => .res_2_atHL
  | 3 => .res_3_atHL
  | 4 => .res_4_atHL
  | 5 => .res_5_atHL
  | 6 => .res_6_atHL
  | 7 => .res_7_atHL

/-- `SET b,r` (R295). -/
def setReg : Fin 8 → Reg8 → Instr
  | 0, .b => .set_0_B | 0, .c => .set_0_C | 0, .d => .set_0_D | 0, .e => .set_0_E | 0, .h => .set_0_H | 0, .l => .set_0_L | 0, .a => .set_0_A
  | 1, .b => .set_1_B | 1, .c => .set_1_C | 1, .d => .set_1_D | 1, .e => .set_1_E | 1, .h => .set_1_H | 1, .l => .set_1_L | 1, .a => .set_1_A
  | 2, .b => .set_2_B | 2, .c => .set_2_C | 2, .d => .set_2_D | 2, .e => .set_2_E | 2, .h => .set_2_H | 2, .l => .set_2_L | 2, .a => .set_2_A
  | 3, .b => .set_3_B | 3, .c => .set_3_C | 3, .d => .set_3_D | 3, .e => .set_3_E | 3, .h => .set_3_H | 3, .l => .set_3_L | 3, .a => .set_3_A
  | 4, .b => .set_4_B | 4, .c => .set_4_C | 4, .d => .set_4_D | 4, .e => .set_4_E | 4, .h => .set_4_H | 4, .l => .set_4_L | 4, .a => .set_4_A
  | 5, .b => .set_5_B | 5, .c => .set_5_C | 5, .d => .set_5_D | 5, .e => .set_5_E | 5, .h => .set_5_H | 5, .l => .set_5_L | 5, .a => .set_5_A
  | 6, .b => .set_6_B | 6, .c => .set_6_C | 6, .d => .set_6_D | 6, .e => .set_6_E | 6, .h => .set_6_H | 6, .l => .set_6_L | 6, .a => .set_6_A
  | 7, .b => .set_7_B | 7, .c => .set_7_C | 7, .d => .set_7_D | 7, .e => .set_7_E | 7, .h => .set_7_H | 7, .l => .set_7_L | 7, .a => .set_7_A

/-- `SET b,(HL)` (R296). -/
def setAtHL : Fin 8 → Instr
  | 0 => .set_0_atHL
  | 1 => .set_1_atHL
  | 2 => .set_2_atHL
  | 3 => .set_3_atHL
  | 4 => .set_4_atHL
  | 5 => .set_5_atHL
  | 6 => .set_6_atHL
  | 7 => .set_7_atHL

/-- The undefined opcodes with their bytes (R158, R327). -/
def undefinedOpcodes : List (Byte × Instr) :=
  [(0xD3, .illegal_D3), (0xDB, .illegal_DB), (0xDD, .illegal_DD), (0xE3, .illegal_E3),
   (0xE4, .illegal_E4), (0xEB, .illegal_EB), (0xEC, .illegal_EC), (0xED, .illegal_ED),
   (0xF4, .illegal_F4), (0xFC, .illegal_FC), (0xFD, .illegal_FD)]

end Instr

end Sys2Proof
end

