-- ==== Sys2Proof/Decode.lean ====
section
/-! DEFINITION. Decoding bytes to instructions and back (spec/30_encoding.md R140 to R166).
The two tables are written row by row as R163 and R164 print them: row = high nibble, column = low nibble. -/

namespace Sys2Proof

open Sys2Proof.Machine (joinBytes hiByte loByte)

/-- What a base-table cell asks of the bytes after the opcode (R141): nothing, one byte (`OP_N8`, `OP_E8`,
`OP_PAD`), two bytes low first (`OP_N16`), or the extended table (`PREFIX`). -/
inductive Entry where
  | whole (i : Instr)
  | imm8 (f : Byte → Instr)
  | imm16 (f : Word → Instr)
  | extended

/-- Why a byte string holds no instruction: it is empty, or it ends inside the instruction its opcode begins.
No byte VALUE is rejected: the undefined opcodes are rows of their own (R158, R166). -/
inductive DecodeError where
  | noBytes
  | truncated (op : Byte)
deriving DecidableEq, Repr

/-- Row 0x of the base table (R163). -/
def baseRow0 : List Entry :=
  [.whole .nop, .imm16 .ld_BC_n16, .whole .ld_atBC_A, .whole .inc_BC,
   .whole .inc_B, .whole .dec_B, .imm8 .ld_B_n8, .whole .rlca,
   .imm16 .ld_atN16_SP, .whole .add_HL_BC, .whole .ld_A_atBC, .whole .dec_BC,
   .whole .inc_C, .whole .dec_C, .imm8 .ld_C_n8, .whole .rrca]

/-- Row 1x of the base table (R163). -/
def baseRow1 : List Entry :=
  [.imm8 .stop, .imm16 .ld_DE_n16, .whole .ld_atDE_A, .whole .inc_DE,
   .whole .inc_D, .whole .dec_D, .imm8 .ld_D_n8, .whole .rla,
   .imm8 .jr_e8, .whole .add_HL_DE, .whole .ld_A_atDE, .whole .dec_DE,
   .whole .inc_E, .whole .dec_E, .imm8 .ld_E_n8, .whole .rra]

/-- Row 2x of the base table (R163). -/
def baseRow2 : List Entry :=
  [.imm8 .jr_NZ_e8, .imm16 .ld_HL_n16, .whole .ld_atHLI_A, .whole .inc_HL,
   .whole .inc_H, .whole .dec_H, .imm8 .ld_H_n8, .whole .daa,
   .imm8 .jr_Z_e8, .whole .add_HL_HL, .whole .ld_A_atHLI, .whole .dec_HL,
   .whole .inc_L, .whole .dec_L, .imm8 .ld_L_n8, .whole .cpl]

/-- Row 3x of the base table (R163). -/
def baseRow3 : List Entry :=
  [.imm8 .jr_NC_e8, .imm16 .ld_SP_n16, .whole .ld_atHLD_A, .whole .inc_SP,
   .whole .inc_atHL, .whole .dec_atHL, .imm8 .ld_atHL_n8, .whole .scf,
   .imm8 .jr_C_e8, .whole .add_HL_SP, .whole .ld_A_atHLD, .whole .dec_SP,
   .whole .inc_A, .whole .dec_A, .imm8 .ld_A_n8, .whole .ccf]

/-- Row 4x of the base table (R163). -/
def baseRow4 : List Entry :=
  [.whole .ld_B_B, .whole .ld_B_C, .whole .ld_B_D, .whole .ld_B_E,
   .whole .ld_B_H, .whole .ld_B_L, .whole .ld_B_atHL, .whole .ld_B_A,
   .whole .ld_C_B, .whole .ld_C_C, .whole .ld_C_D, .whole .ld_C_E,
   .whole .ld_C_H, .whole .ld_C_L, .whole .ld_C_atHL, .whole .ld_C_A]

/-- Row 5x of the base table (R163). -/
def baseRow5 : List Entry :=
  [.whole .ld_D_B, .whole .ld_D_C, .whole .ld_D_D, .whole .ld_D_E,
   .whole .ld_D_H, .whole .ld_D_L, .whole .ld_D_atHL, .whole .ld_D_A,
   .whole .ld_E_B, .whole .ld_E_C, .whole .ld_E_D, .whole .ld_E_E,
   .whole .ld_E_H, .whole .ld_E_L, .whole .ld_E_atHL, .whole .ld_E_A]

/-- Row 6x of the base table (R163). -/
def baseRow6 : List Entry :=
  [.whole .ld_H_B, .whole .ld_H_C, .whole .ld_H_D, .whole .ld_H_E,
   .whole .ld_H_H, .whole .ld_H_L, .whole .ld_H_atHL, .whole .ld_H_A,
   .whole .ld_L_B, .whole .ld_L_C, .whole .ld_L_D, .whole .ld_L_E,
   .whole .ld_L_H, .whole .ld_L_L, .whole .ld_L_atHL, .whole .ld_L_A]

/-- Row 7x of the base table (R163). -/
def baseRow7 : List Entry :=
  [.whole .ld_atHL_B, .whole .ld_atHL_C, .whole .ld_atHL_D, .whole .ld_atHL_E,
   .whole .ld_atHL_H, .whole .ld_atHL_L, .whole .halt, .whole .ld_atHL_A,
   .whole .ld_A_B, .whole .ld_A_C, .whole .ld_A_D, .whole .ld_A_E,
   .whole .ld_A_H, .whole .ld_A_L, .whole .ld_A_atHL, .whole .ld_A_A]

/-- Row 8x of the base table (R163). -/
def baseRow8 : List Entry :=
  [.whole .add_A_B, .whole .add_A_C, .whole .add_A_D, .whole .add_A_E,
   .whole .add_A_H, .whole .add_A_L, .whole .add_A_atHL, .whole .add_A_A,
   .whole .adc_A_B, .whole .adc_A_C, .whole .adc_A_D, .whole .adc_A_E,
   .whole .adc_A_H, .whole .adc_A_L, .whole .adc_A_atHL, .whole .adc_A_A]

/-- Row 9x of the base table (R163). -/
def baseRow9 : List Entry :=
  [.whole .sub_B, .whole .sub_C, .whole .sub_D, .whole .sub_E,
   .whole .sub_H, .whole .sub_L, .whole .sub_atHL, .whole .sub_A,
   .whole .sbc_A_B, .whole .sbc_A_C, .whole .sbc_A_D, .whole .sbc_A_E,
   .whole .sbc_A_H, .whole .sbc_A_L, .whole .sbc_A_atHL, .whole .sbc_A_A]

/-- Row Ax of the base table (R163). -/
def baseRowA : List Entry :=
  [.whole .and_B, .whole .and_C, .whole .and_D, .whole .and_E,
   .whole .and_H, .whole .and_L, .whole .and_atHL, .whole .and_A,
   .whole .xor_B, .whole .xor_C, .whole .xor_D, .whole .xor_E,
   .whole .xor_H, .whole .xor_L, .whole .xor_atHL, .whole .xor_A]

/-- Row Bx of the base table (R163). -/
def baseRowB : List Entry :=
  [.whole .or_B, .whole .or_C, .whole .or_D, .whole .or_E,
   .whole .or_H, .whole .or_L, .whole .or_atHL, .whole .or_A,
   .whole .cp_B, .whole .cp_C, .whole .cp_D, .whole .cp_E,
   .whole .cp_H, .whole .cp_L, .whole .cp_atHL, .whole .cp_A]

/-- Row Cx of the base table (R163). -/
def baseRowC : List Entry :=
  [.whole .ret_NZ, .whole .pop_BC, .imm16 .jp_NZ_n16, .imm16 .jp_n16,
   .imm16 .call_NZ_n16, .whole .push_BC, .imm8 .add_A_n8, .whole .rst_00,
   .whole .ret_Z, .whole .ret, .imm16 .jp_Z_n16, .extended,
   .imm16 .call_Z_n16, .imm16 .call_n16, .imm8 .adc_A_n8, .whole .rst_08]

/-- Row Dx of the base table (R163). -/
def baseRowD : List Entry :=
  [.whole .ret_NC, .whole .pop_DE, .imm16 .jp_NC_n16, .whole .illegal_D3,
   .imm16 .call_NC_n16, .whole .push_DE, .imm8 .sub_n8, .whole .rst_10,
   .whole .ret_C, .whole .reti, .imm16 .jp_C_n16, .whole .illegal_DB,
   .imm16 .call_C_n16, .whole .illegal_DD, .imm8 .sbc_A_n8, .whole .rst_18]

/-- Row Ex of the base table (R163). -/
def baseRowE : List Entry :=
  [.imm8 .ldh_atN8_A, .whole .pop_HL, .whole .ldh_atC_A, .whole .illegal_E3,
   .whole .illegal_E4, .whole .push_HL, .imm8 .and_n8, .whole .rst_20,
   .imm8 .add_SP_e8, .whole .jp_HL, .imm16 .ld_atN16_A, .whole .illegal_EB,
   .whole .illegal_EC, .whole .illegal_ED, .imm8 .xor_n8, .whole .rst_28]

/-- Row Fx of the base table (R163). -/
def baseRowF : List Entry :=
  [.imm8 .ldh_A_atN8, .whole .pop_AF, .whole .ldh_A_atC, .whole .di,
   .whole .illegal_F4, .whole .push_AF, .imm8 .or_n8, .whole .rst_30,
   .imm8 .ld_HL_SP_e8, .whole .ld_SP_HL, .imm16 .ld_A_atN16, .whole .ei,
   .whole .illegal_FC, .whole .illegal_FD, .imm8 .cp_n8, .whole .rst_38]

/-- The base table (R163). -/
def baseTable : List (List Entry) :=
  [baseRow0, baseRow1, baseRow2, baseRow3, baseRow4, baseRow5, baseRow6, baseRow7,
   baseRow8, baseRow9, baseRowA, baseRowB, baseRowC, baseRowD, baseRowE, baseRowF]

/-- Row 0x of the extended table (R164). -/
def extRow0 : List Instr :=
  [.rlc_B, .rlc_C, .rlc_D, .rlc_E, .rlc_H, .rlc_L, .rlc_atHL, .rlc_A,
   .rrc_B, .rrc_C, .rrc_D, .rrc_E, .rrc_H, .rrc_L, .rrc_atHL, .rrc_A]

/-- Row 1x of the extended table (R164). -/
def extRow1 : List Instr :=
  [.rl_B, .rl_C, .rl_D, .rl_E, .rl_H, .rl_L, .rl_atHL, .rl_A,
   .rr_B, .rr_C, .rr_D, .rr_E, .rr_H, .rr_L, .rr_atHL, .rr_A]

/-- Row 2x of the extended table (R164). -/
def extRow2 : List Instr :=
  [.sla_B, .sla_C, .sla_D, .sla_E, .sla_H, .sla_L, .sla_atHL, .sla_A,
   .sra_B, .sra_C, .sra_D, .sra_E, .sra_H, .sra_L, .sra_atHL, .sra_A]

/-- Row 3x of the extended table (R164). -/
def extRow3 : List Instr :=
  [.swap_B, .swap_C, .swap_D, .swap_E, .swap_H, .swap_L, .swap_atHL, .swap_A,
   .srl_B, .srl_C, .srl_D, .srl_E, .srl_H, .srl_L, .srl_atHL, .srl_A]

/-- Row 4x of the extended table (R164). -/
def extRow4 : List Instr :=
  [.bit_0_B, .bit_0_C, .bit_0_D, .bit_0_E, .bit_0_H, .bit_0_L, .bit_0_atHL, .bit_0_A,
   .bit_1_B, .bit_1_C, .bit_1_D, .bit_1_E, .bit_1_H, .bit_1_L, .bit_1_atHL, .bit_1_A]

/-- Row 5x of the extended table (R164). -/
def extRow5 : List Instr :=
  [.bit_2_B, .bit_2_C, .bit_2_D, .bit_2_E, .bit_2_H, .bit_2_L, .bit_2_atHL, .bit_2_A,
   .bit_3_B, .bit_3_C, .bit_3_D, .bit_3_E, .bit_3_H, .bit_3_L, .bit_3_atHL, .bit_3_A]

/-- Row 6x of the extended table (R164). -/
def extRow6 : List Instr :=
  [.bit_4_B, .bit_4_C, .bit_4_D, .bit_4_E, .bit_4_H, .bit_4_L, .bit_4_atHL, .bit_4_A,
   .bit_5_B, .bit_5_C, .bit_5_D, .bit_5_E, .bit_5_H, .bit_5_L, .bit_5_atHL, .bit_5_A]

/-- Row 7x of the extended table (R164). -/
def extRow7 : List Instr :=
  [.bit_6_B, .bit_6_C, .bit_6_D, .bit_6_E, .bit_6_H, .bit_6_L, .bit_6_atHL, .bit_6_A,
   .bit_7_B, .bit_7_C, .bit_7_D, .bit_7_E, .bit_7_H, .bit_7_L, .bit_7_atHL, .bit_7_A]

/-- Row 8x of the extended table (R164). -/
def extRow8 : List Instr :=
  [.res_0_B, .res_0_C, .res_0_D, .res_0_E, .res_0_H, .res_0_L, .res_0_atHL, .res_0_A,
   .res_1_B, .res_1_C, .res_1_D, .res_1_E, .res_1_H, .res_1_L, .res_1_atHL, .res_1_A]

/-- Row 9x of the extended table (R164). -/
def extRow9 : List Instr :=
  [.res_2_B, .res_2_C, .res_2_D, .res_2_E, .res_2_H, .res_2_L, .res_2_atHL, .res_2_A,
   .res_3_B, .res_3_C, .res_3_D, .res_3_E, .res_3_H, .res_3_L, .res_3_atHL, .res_3_A]

/-- Row Ax of the extended table (R164). -/
def extRowA : List Instr :=
  [.res_4_B, .res_4_C, .res_4_D, .res_4_E, .res_4_H, .res_4_L, .res_4_atHL, .res_4_A,
   .res_5_B, .res_5_C, .res_5_D, .res_5_E, .res_5_H, .res_5_L, .res_5_atHL, .res_5_A]

/-- Row Bx of the extended table (R164). -/
def extRowB : List Instr :=
  [.res_6_B, .res_6_C, .res_6_D, .res_6_E, .res_6_H, .res_6_L, .res_6_atHL, .res_6_A,
   .res_7_B, .res_7_C, .res_7_D, .res_7_E, .res_7_H, .res_7_L, .res_7_atHL, .res_7_A]

/-- Row Cx of the extended table (R164). -/
def extRowC : List Instr :=
  [.set_0_B, .set_0_C, .set_0_D, .set_0_E, .set_0_H, .set_0_L, .set_0_atHL, .set_0_A,
   .set_1_B, .set_1_C, .set_1_D, .set_1_E, .set_1_H, .set_1_L, .set_1_atHL, .set_1_A]

/-- Row Dx of the extended table (R164). -/
def extRowD : List Instr :=
  [.set_2_B, .set_2_C, .set_2_D, .set_2_E, .set_2_H, .set_2_L, .set_2_atHL, .set_2_A,
   .set_3_B, .set_3_C, .set_3_D, .set_3_E, .set_3_H, .set_3_L, .set_3_atHL, .set_3_A]

/-- Row Ex of the extended table (R164). -/
def extRowE : List Instr :=
  [.set_4_B, .set_4_C, .set_4_D, .set_4_E, .set_4_H, .set_4_L, .set_4_atHL, .set_4_A,
   .set_5_B, .set_5_C, .set_5_D, .set_5_E, .set_5_H, .set_5_L, .set_5_atHL, .set_5_A]

/-- Row Fx of the extended table (R164). -/
def extRowF : List Instr :=
  [.set_6_B, .set_6_C, .set_6_D, .set_6_E, .set_6_H, .set_6_L, .set_6_atHL, .set_6_A,
   .set_7_B, .set_7_C, .set_7_D, .set_7_E, .set_7_H, .set_7_L, .set_7_atHL, .set_7_A]

/-- The extended table (R164). -/
def extTable : List (List Instr) :=
  [extRow0, extRow1, extRow2, extRow3, extRow4, extRow5, extRow6, extRow7,
   extRow8, extRow9, extRowA, extRowB, extRowC, extRowD, extRowE, extRowF]

/-- The cell of the base table a byte selects. Both tables have 16 rows of 16 cells, so the defaults of this
definition and the next are never reached (Laws/Decode.lean). -/
def baseEntry (op : Byte) : Entry :=
  (baseTable.getD (op.toNat / 16) []).getD (op.toNat % 16) .extended

/-- The extended instruction a byte selects (R157, R164): all 256 are defined. -/
def extInstr (op : Byte) : Instr :=
  (extTable.getD (op.toNat / 16) []).getD (op.toNat % 16) .prefixCB

/-- How many bytes the whole instruction beginning with this opcode has (R140). -/
def Entry.length : Entry → Nat
  | .whole _ => 1
  | .imm8 _ => 2
  | .imm16 _ => 3
  | .extended => 2

/-- The length of the instruction that begins with `op` (R140: the opcode alone decides it). -/
def instrLength (op : Byte) : Nat := (baseEntry op).length

/-- The instruction whose first bytes are `b0 b1 b2`, whatever they are (R140, R343 step 6): three bytes always
hold a whole instruction. -/
def decodeWindow (b0 b1 b2 : Byte) : Instr :=
  match baseEntry b0 with
  | .whole i => i
  | .imm8 f => f b1
  | .imm16 f => f (joinBytes b2 b1)
  | .extended => extInstr b1

/-- Decoding a byte string to its first instruction and the bytes after it (R166). The prefix byte with nothing
after it is the table's one-byte row `PREFIX_CB` (R326); with a byte after it, it is that extended instruction.
DESIGN CHOICE (notes/assumptions/12.md). -/
def decode : List Byte → Except DecodeError (Instr × List Byte)
  | [] => .error .noBytes
  | op :: rest =>
    match baseEntry op, rest with
    | .whole i, r => .ok (i, r)
    | .imm8 f, n :: r => .ok (f n, r)
    | .imm16 f, lo :: hi :: r => .ok (f (joinBytes hi lo), r)
    | .extended, n :: r => .ok (extInstr n, r)
    | .extended, [] => .ok (.prefixCB, [])
    | .imm8 _, [] => .error (.truncated op)
    | .imm16 _, _ => .error (.truncated op)

/-- The bytes of an instruction in address order (R141, R163, R164). -/
def encode : Instr → List Byte
  | .nop => [0x00]
  | .ld_BC_n16 n => [0x01, loByte n, hiByte n]
  | .ld_atBC_A => [0x02]
  | .inc_BC => [0x03]
  | .inc_B => [0x04]
  | .dec_B => [0x05]
  | .ld_B_n8 n => [0x06, n]
  | .rlca => [0x07]
  | .ld_atN16_SP n => [0x08, loByte n, hiByte n]
  | .add_HL_BC => [0x09]
  | .ld_A_atBC => [0x0A]
  | .dec_BC => [0x0B]
  | .inc_C => [0x0C]
  | .dec_C => [0x0D]
  | .ld_C_n8 n => [0x0E, n]
  | .rrca => [0x0F]
  | .stop n => [0x10, n]
  | .ld_DE_n16 n => [0x11, loByte n, hiByte n]
  | .ld_atDE_A => [0x12]
  | .inc_DE => [0x13]
  | .inc_D => [0x14]
  | .dec_D => [0x15]
  | .ld_D_n8 n => [0x16, n]
  | .rla => [0x17]
  | .jr_e8 n => [0x18, n]
  | .add_HL_DE => [0x19]
  | .ld_A_atDE => [0x1A]
  | .dec_DE => [0x1B]
  | .inc_E => [0x1C]
  | .dec_E => [0x1D]
  | .ld_E_n8 n => [0x1E, n]
  | .rra => [0x1F]
  | .jr_NZ_e8 n => [0x20, n]
  | .ld_HL_n16 n => [0x21, loByte n, hiByte n]
  | .ld_atHLI_A => [0x22]
  | .inc_HL => [0x23]
  | .inc_H => [0x24]
  | .dec_H => [0x25]
  | .ld_H_n8 n => [0x26, n]
  | .daa => [0x27]
  | .jr_Z_e8 n => [0x28, n]
  | .add_HL_HL => [0x29]
  | .ld_A_atHLI => [0x2A]
  | .dec_HL => [0x2B]
  | .inc_L => [0x2C]
  | .dec_L => [0x2D]
  | .ld_L_n8 n => [0x2E, n]
  | .cpl => [0x2F]
  | .jr_NC_e8 n => [0x30, n]
  | .ld_SP_n16 n => [0x31, loByte n, hiByte n]
  | .ld_atHLD_A => [0x32]
  | .inc_SP => [0x33]
  | .inc_atHL => [0x34]
  | .dec_atHL => [0x35]
  | .ld_atHL_n8 n => [0x36, n]
  | .scf => [0x37]
  | .jr_C_e8 n => [0x38, n]
  | .add_HL_SP => [0x39]
  | .ld_A_atHLD => [0x3A]
  | .dec_SP => [0x3B]
  | .inc_A => [0x3C]
  | .dec_A => [0x3D]
  | .ld_A_n8 n => [0x3E, n]
  | .ccf => [0x3F]
  | .ld_B_B => [0x40]
  | .ld_B_C => [0x41]
  | .ld_B_D => [0x42]
  | .ld_B_E => [0x43]
  | .ld_B_H => [0x44]
  | .ld_B_L => [0x45]
  | .ld_B_atHL => [0x46]
  | .ld_B_A => [0x47]
  | .ld_C_B => [0x48]
  | .ld_C_C => [0x49]
  | .ld_C_D => [0x4A]
  | .ld_C_E => [0x4B]
  | .ld_C_H => [0x4C]
  | .ld_C_L => [0x4D]
  | .ld_C_atHL => [0x4E]
  | .ld_C_A => [0x4F]
  | .ld_D_B => [0x50]
  | .ld_D_C => [0x51]
  | .ld_D_D => [0x52]
  | .ld_D_E => [0x53]
  | .ld_D_H => [0x54]
  | .ld_D_L => [0x55]
  | .ld_D_atHL => [0x56]
  | .ld_D_A => [0x57]
  | .ld_E_B => [0x58]
  | .ld_E_C => [0x59]
  | .ld_E_D => [0x5A]
  | .ld_E_E => [0x5B]
  | .ld_E_H => [0x5C]
  | .ld_E_L => [0x5D]
  | .ld_E_atHL => [0x5E]
  | .ld_E_A => [0x5F]
  | .ld_H_B => [0x60]
  | .ld_H_C => [0x61]
  | .ld_H_D => [0x62]
  | .ld_H_E => [0x63]
  | .ld_H_H => [0x64]
  | .ld_H_L => [0x65]
  | .ld_H_atHL => [0x66]
  | .ld_H_A => [0x67]
  | .ld_L_B => [0x68]
  | .ld_L_C => [0x69]
  | .ld_L_D => [0x6A]
  | .ld_L_E => [0x6B]
  | .ld_L_H => [0x6C]
  | .ld_L_L => [0x6D]
  | .ld_L_atHL => [0x6E]
  | .ld_L_A => [0x6F]
  | .ld_atHL_B => [0x70]
  | .ld_atHL_C => [0x71]
  | .ld_atHL_D => [0x72]
  | .ld_atHL_E => [0x73]
  | .ld_atHL_H => [0x74]
  | .ld_atHL_L => [0x75]
  | .halt => [0x76]
  | .ld_atHL_A => [0x77]
  | .ld_A_B => [0x78]
  | .ld_A_C => [0x79]
  | .ld_A_D => [0x7A]
  | .ld_A_E => [0x7B]
  | .ld_A_H => [0x7C]
  | .ld_A_L => [0x7D]
  | .ld_A_atHL => [0x7E]
  | .ld_A_A => [0x7F]
  | .add_A_B => [0x80]
  | .add_A_C => [0x81]
  | .add_A_D => [0x82]
  | .add_A_E => [0x83]
  | .add_A_H => [0x84]
  | .add_A_L => [0x85]
  | .add_A_atHL => [0x86]
  | .add_A_A => [0x87]
  | .adc_A_B => [0x88]
  | .adc_A_C => [0x89]
  | .adc_A_D => [0x8A]
  | .adc_A_E => [0x8B]
  | .adc_A_H => [0x8C]
  | .adc_A_L => [0x8D]
  | .adc_A_atHL => [0x8E]
  | .adc_A_A => [0x8F]
  | .sub_B => [0x90]
  | .sub_C => [0x91]
  | .sub_D => [0x92]
  | .sub_E => [0x93]
  | .sub_H => [0x94]
  | .sub_L => [0x95]
  | .sub_atHL => [0x96]
  | .sub_A => [0x97]
  | .sbc_A_B => [0x98]
  | .sbc_A_C => [0x99]
  | .sbc_A_D => [0x9A]
  | .sbc_A_E => [0x9B]
  | .sbc_A_H => [0x9C]
  | .sbc_A_L => [0x9D]
  | .sbc_A_atHL => [0x9E]
  | .sbc_A_A => [0x9F]
  | .and_B => [0xA0]
  | .and_C => [0xA1]
  | .and_D => [0xA2]
  | .and_E => [0xA3]
  | .and_H => [0xA4]
  | .and_L => [0xA5]
  | .and_atHL => [0xA6]
  | .and_A => [0xA7]
  | .xor_B => [0xA8]
  | .xor_C => [0xA9]
  | .xor_D => [0xAA]
  | .xor_E => [0xAB]
  | .xor_H => [0xAC]
  | .xor_L => [0xAD]
  | .xor_atHL => [0xAE]
  | .xor_A => [0xAF]
  | .or_B => [0xB0]
  | .or_C => [0xB1]
  | .or_D => [0xB2]
  | .or_E => [0xB3]
  | .or_H => [0xB4]
  | .or_L => [0xB5]
  | .or_atHL => [0xB6]
  | .or_A => [0xB7]
  | .cp_B => [0xB8]
  | .cp_C => [0xB9]
  | .cp_D => [0xBA]
  | .cp_E => [0xBB]
  | .cp_H => [0xBC]
  | .cp_L => [0xBD]
  | .cp_atHL => [0xBE]
  | .cp_A => [0xBF]
  | .ret_NZ => [0xC0]
  | .pop_BC => [0xC1]
  | .jp_NZ_n16 n => [0xC2, loByte n, hiByte n]
  | .jp_n16 n => [0xC3, loByte n, hiByte n]
  | .call_NZ_n16 n => [0xC4, loByte n, hiByte n]
  | .push_BC => [0xC5]
  | .add_A_n8 n => [0xC6, n]
  | .rst_00 => [0xC7]
  | .ret_Z => [0xC8]
  | .ret => [0xC9]
  | .jp_Z_n16 n => [0xCA, loByte n, hiByte n]
  | .prefixCB => [0xCB]
  | .call_Z_n16 n => [0xCC, loByte n, hiByte n]
  | .call_n16 n => [0xCD, loByte n, hiByte n]
  | .adc_A_n8 n => [0xCE, n]
  | .rst_08 => [0xCF]
  | .ret_NC => [0xD0]
  | .pop_DE => [0xD1]
  | .jp_NC_n16 n => [0xD2, loByte n, hiByte n]
  | .illegal_D3 => [0xD3]
  | .call_NC_n16 n => [0xD4, loByte n, hiByte n]
  | .push_DE => [0xD5]
  | .sub_n8 n => [0xD6, n]
  | .rst_10 => [0xD7]
  | .ret_C => [0xD8]
  | .reti => [0xD9]
  | .jp_C_n16 n => [0xDA, loByte n, hiByte n]
  | .illegal_DB => [0xDB]
  | .call_C_n16 n => [0xDC, loByte n, hiByte n]
  | .illegal_DD => [0xDD]
  | .sbc_A_n8 n => [0xDE, n]
  | .rst_18 => [0xDF]
  | .ldh_atN8_A n => [0xE0, n]
  | .pop_HL => [0xE1]
  | .ldh_atC_A => [0xE2]
  | .illegal_E3 => [0xE3]
  | .illegal_E4 => [0xE4]
  | .push_HL => [0xE5]
  | .and_n8 n => [0xE6, n]
  | .rst_20 => [0xE7]
  | .add_SP_e8 n => [0xE8, n]
  | .jp_HL => [0xE9]
  | .ld_atN16_A n => [0xEA, loByte n, hiByte n]
  | .illegal_EB => [0xEB]
  | .illegal_EC => [0xEC]
  | .illegal_ED => [0xED]
  | .xor_n8 n => [0xEE, n]
  | .rst_28 => [0xEF]
  | .ldh_A_atN8 n => [0xF0, n]
  | .pop_AF => [0xF1]
  | .ldh_A_atC => [0xF2]
  | .di => [0xF3]
  | .illegal_F4 => [0xF4]
  | .push_AF => [0xF5]
  | .or_n8 n => [0xF6, n]
  | .rst_30 => [0xF7]
  | .ld_HL_SP_e8 n => [0xF8, n]
  | .ld_SP_HL => [0xF9]
  | .ld_A_atN16 n => [0xFA, loByte n, hiByte n]
  | .ei => [0xFB]
  | .illegal_FC => [0xFC]
  | .illegal_FD => [0xFD]
  | .cp_n8 n => [0xFE, n]
  | .rst_38 => [0xFF]
  | .rlc_B => [0xCB, 0x00]
  | .rlc_C => [0xCB, 0x01]
  | .rlc_D => [0xCB, 0x02]
  | .rlc_E => [0xCB, 0x03]
  | .rlc_H => [0xCB, 0x04]
  | .rlc_L => [0xCB, 0x05]
  | .rlc_atHL => [0xCB, 0x06]
  | .rlc_A => [0xCB, 0x07]
  | .rrc_B => [0xCB, 0x08]
  | .rrc_C => [0xCB, 0x09]
  | .rrc_D => [0xCB, 0x0A]
  | .rrc_E => [0xCB, 0x0B]
  | .rrc_H => [0xCB, 0x0C]
  | .rrc_L => [0xCB, 0x0D]
  | .rrc_atHL => [0xCB, 0x0E]
  | .rrc_A => [0xCB, 0x0F]
  | .rl_B => [0xCB, 0x10]
  | .rl_C => [0xCB, 0x11]
  | .rl_D => [0xCB, 0x12]
  | .rl_E => [0xCB, 0x13]
  | .rl_H => [0xCB, 0x14]
  | .rl_L => [0xCB, 0x15]
  | .rl_atHL => [0xCB, 0x16]
  | .rl_A => [0xCB, 0x17]
  | .rr_B => [0xCB, 0x18]
  | .rr_C => [0xCB, 0x19]
  | .rr_D => [0xCB, 0x1A]
  | .rr_E => [0xCB, 0x1B]
  | .rr_H => [0xCB, 0x1C]
  | .rr_L => [0xCB, 0x1D]
  | .rr_atHL => [0xCB, 0x1E]
  | .rr_A => [0xCB, 0x1F]
  | .sla_B => [0xCB, 0x20]
  | .sla_C => [0xCB, 0x21]
  | .sla_D => [0xCB, 0x22]
  | .sla_E => [0xCB, 0x23]
  | .sla_H => [0xCB, 0x24]
  | .sla_L => [0xCB, 0x25]
  | .sla_atHL => [0xCB, 0x26]
  | .sla_A => [0xCB, 0x27]
  | .sra_B => [0xCB, 0x28]
  | .sra_C => [0xCB, 0x29]
  | .sra_D => [0xCB, 0x2A]
  | .sra_E => [0xCB, 0x2B]
  | .sra_H => [0xCB, 0x2C]
  | .sra_L => [0xCB, 0x2D]
  | .sra_atHL => [0xCB, 0x2E]
  | .sra_A => [0xCB, 0x2F]
  | .swap_B => [0xCB, 0x30]
  | .swap_C => [0xCB, 0x31]
  | .swap_D => [0xCB, 0x32]
  | .swap_E => [0xCB, 0x33]
  | .swap_H => [0xCB, 0x34]
  | .swap_L => [0xCB, 0x35]
  | .swap_atHL => [0xCB, 0x36]
  | .swap_A => [0xCB, 0x37]
  | .srl_B => [0xCB, 0x38]
  | .srl_C => [0xCB, 0x39]
  | .srl_D => [0xCB, 0x3A]
  | .srl_E => [0xCB, 0x3B]
  | .srl_H => [0xCB, 0x3C]
  | .srl_L => [0xCB, 0x3D]
  | .srl_atHL => [0xCB, 0x3E]
  | .srl_A => [0xCB, 0x3F]
  | .bit_0_B => [0xCB, 0x40]
  | .bit_0_C => [0xCB, 0x41]
  | .bit_0_D => [0xCB, 0x42]
  | .bit_0_E => [0xCB, 0x43]
  | .bit_0_H => [0xCB, 0x44]
  | .bit_0_L => [0xCB, 0x45]
  | .bit_0_atHL => [0xCB, 0x46]
  | .bit_0_A => [0xCB, 0x47]
  | .bit_1_B => [0xCB, 0x48]
  | .bit_1_C => [0xCB, 0x49]
  | .bit_1_D => [0xCB, 0x4A]
  | .bit_1_E => [0xCB, 0x4B]
  | .bit_1_H => [0xCB, 0x4C]
  | .bit_1_L => [0xCB, 0x4D]
  | .bit_1_atHL => [0xCB, 0x4E]
  | .bit_1_A => [0xCB, 0x4F]
  | .bit_2_B => [0xCB, 0x50]
  | .bit_2_C => [0xCB, 0x51]
  | .bit_2_D => [0xCB, 0x52]
  | .bit_2_E => [0xCB, 0x53]
  | .bit_2_H => [0xCB, 0x54]
  | .bit_2_L => [0xCB, 0x55]
  | .bit_2_atHL => [0xCB, 0x56]
  | .bit_2_A => [0xCB, 0x57]
  | .bit_3_B => [0xCB, 0x58]
  | .bit_3_C => [0xCB, 0x59]
  | .bit_3_D => [0xCB, 0x5A]
  | .bit_3_E => [0xCB, 0x5B]
  | .bit_3_H => [0xCB, 0x5C]
  | .bit_3_L => [0xCB, 0x5D]
  | .bit_3_atHL => [0xCB, 0x5E]
  | .bit_3_A => [0xCB, 0x5F]
  | .bit_4_B => [0xCB, 0x60]
  | .bit_4_C => [0xCB, 0x61]
  | .bit_4_D => [0xCB, 0x62]
  | .bit_4_E => [0xCB, 0x63]
  | .bit_4_H => [0xCB, 0x64]
  | .bit_4_L => [0xCB, 0x65]
  | .bit_4_atHL => [0xCB, 0x66]
  | .bit_4_A => [0xCB, 0x67]
  | .bit_5_B => [0xCB, 0x68]
  | .bit_5_C => [0xCB, 0x69]
  | .bit_5_D => [0xCB, 0x6A]
  | .bit_5_E => [0xCB, 0x6B]
  | .bit_5_H => [0xCB, 0x6C]
  | .bit_5_L => [0xCB, 0x6D]
  | .bit_5_atHL => [0xCB, 0x6E]
  | .bit_5_A => [0xCB, 0x6F]
  | .bit_6_B => [0xCB, 0x70]
  | .bit_6_C => [0xCB, 0x71]
  | .bit_6_D => [0xCB, 0x72]
  | .bit_6_E => [0xCB, 0x73]
  | .bit_6_H => [0xCB, 0x74]
  | .bit_6_L => [0xCB, 0x75]
  | .bit_6_atHL => [0xCB, 0x76]
  | .bit_6_A => [0xCB, 0x77]
  | .bit_7_B => [0xCB, 0x78]
  | .bit_7_C => [0xCB, 0x79]
  | .bit_7_D => [0xCB, 0x7A]
  | .bit_7_E => [0xCB, 0x7B]
  | .bit_7_H => [0xCB, 0x7C]
  | .bit_7_L => [0xCB, 0x7D]
  | .bit_7_atHL => [0xCB, 0x7E]
  | .bit_7_A => [0xCB, 0x7F]
  | .res_0_B => [0xCB, 0x80]
  | .res_0_C => [0xCB, 0x81]
  | .res_0_D => [0xCB, 0x82]
  | .res_0_E => [0xCB, 0x83]
  | .res_0_H => [0xCB, 0x84]
  | .res_0_L => [0xCB, 0x85]
  | .res_0_atHL => [0xCB, 0x86]
  | .res_0_A => [0xCB, 0x87]
  | .res_1_B => [0xCB, 0x88]
  | .res_1_C => [0xCB, 0x89]
  | .res_1_D => [0xCB, 0x8A]
  | .res_1_E => [0xCB, 0x8B]
  | .res_1_H => [0xCB, 0x8C]
  | .res_1_L => [0xCB, 0x8D]
  | .res_1_atHL => [0xCB, 0x8E]
  | .res_1_A => [0xCB, 0x8F]
  | .res_2_B => [0xCB, 0x90]
  | .res_2_C => [0xCB, 0x91]
  | .res_2_D => [0xCB, 0x92]
  | .res_2_E => [0xCB, 0x93]
  | .res_2_H => [0xCB, 0x94]
  | .res_2_L => [0xCB, 0x95]
  | .res_2_atHL => [0xCB, 0x96]
  | .res_2_A => [0xCB, 0x97]
  | .res_3_B => [0xCB, 0x98]
  | .res_3_C => [0xCB, 0x99]
  | .res_3_D => [0xCB, 0x9A]
  | .res_3_E => [0xCB, 0x9B]
  | .res_3_H => [0xCB, 0x9C]
  | .res_3_L => [0xCB, 0x9D]
  | .res_3_atHL => [0xCB, 0x9E]
  | .res_3_A => [0xCB, 0x9F]
  | .res_4_B => [0xCB, 0xA0]
  | .res_4_C => [0xCB, 0xA1]
  | .res_4_D => [0xCB, 0xA2]
  | .res_4_E => [0xCB, 0xA3]
  | .res_4_H => [0xCB, 0xA4]
  | .res_4_L => [0xCB, 0xA5]
  | .res_4_atHL => [0xCB, 0xA6]
  | .res_4_A => [0xCB, 0xA7]
  | .res_5_B => [0xCB, 0xA8]
  | .res_5_C => [0xCB, 0xA9]
  | .res_5_D => [0xCB, 0xAA]
  | .res_5_E => [0xCB, 0xAB]
  | .res_5_H => [0xCB, 0xAC]
  | .res_5_L => [0xCB, 0xAD]
  | .res_5_atHL => [0xCB, 0xAE]
  | .res_5_A => [0xCB, 0xAF]
  | .res_6_B => [0xCB, 0xB0]
  | .res_6_C => [0xCB, 0xB1]
  | .res_6_D => [0xCB, 0xB2]
  | .res_6_E => [0xCB, 0xB3]
  | .res_6_H => [0xCB, 0xB4]
  | .res_6_L => [0xCB, 0xB5]
  | .res_6_atHL => [0xCB, 0xB6]
  | .res_6_A => [0xCB, 0xB7]
  | .res_7_B => [0xCB, 0xB8]
  | .res_7_C => [0xCB, 0xB9]
  | .res_7_D => [0xCB, 0xBA]
  | .res_7_E => [0xCB, 0xBB]
  | .res_7_H => [0xCB, 0xBC]
  | .res_7_L => [0xCB, 0xBD]
  | .res_7_atHL => [0xCB, 0xBE]
  | .res_7_A => [0xCB, 0xBF]
  | .set_0_B => [0xCB, 0xC0]
  | .set_0_C => [0xCB, 0xC1]
  | .set_0_D => [0xCB, 0xC2]
  | .set_0_E => [0xCB, 0xC3]
  | .set_0_H => [0xCB, 0xC4]
  | .set_0_L => [0xCB, 0xC5]
  | .set_0_atHL => [0xCB, 0xC6]
  | .set_0_A => [0xCB, 0xC7]
  | .set_1_B => [0xCB, 0xC8]
  | .set_1_C => [0xCB, 0xC9]
  | .set_1_D => [0xCB, 0xCA]
  | .set_1_E => [0xCB, 0xCB]
  | .set_1_H => [0xCB, 0xCC]
  | .set_1_L => [0xCB, 0xCD]
  | .set_1_atHL => [0xCB, 0xCE]
  | .set_1_A => [0xCB, 0xCF]
  | .set_2_B => [0xCB, 0xD0]
  | .set_2_C => [0xCB, 0xD1]
  | .set_2_D => [0xCB, 0xD2]
  | .set_2_E => [0xCB, 0xD3]
  | .set_2_H => [0xCB, 0xD4]
  | .set_2_L => [0xCB, 0xD5]
  | .set_2_atHL => [0xCB, 0xD6]
  | .set_2_A => [0xCB, 0xD7]
  | .set_3_B => [0xCB, 0xD8]
  | .set_3_C => [0xCB, 0xD9]
  | .set_3_D => [0xCB, 0xDA]
  | .set_3_E => [0xCB, 0xDB]
  | .set_3_H => [0xCB, 0xDC]
  | .set_3_L => [0xCB, 0xDD]
  | .set_3_atHL => [0xCB, 0xDE]
  | .set_3_A => [0xCB, 0xDF]
  | .set_4_B => [0xCB, 0xE0]
  | .set_4_C => [0xCB, 0xE1]
  | .set_4_D => [0xCB, 0xE2]
  | .set_4_E => [0xCB, 0xE3]
  | .set_4_H => [0xCB, 0xE4]
  | .set_4_L => [0xCB, 0xE5]
  | .set_4_atHL => [0xCB, 0xE6]
  | .set_4_A => [0xCB, 0xE7]
  | .set_5_B => [0xCB, 0xE8]
  | .set_5_C => [0xCB, 0xE9]
  | .set_5_D => [0xCB, 0xEA]
  | .set_5_E => [0xCB, 0xEB]
  | .set_5_H => [0xCB, 0xEC]
  | .set_5_L => [0xCB, 0xED]
  | .set_5_atHL => [0xCB, 0xEE]
  | .set_5_A => [0xCB, 0xEF]
  | .set_6_B => [0xCB, 0xF0]
  | .set_6_C => [0xCB, 0xF1]
  | .set_6_D => [0xCB, 0xF2]
  | .set_6_E => [0xCB, 0xF3]
  | .set_6_H => [0xCB, 0xF4]
  | .set_6_L => [0xCB, 0xF5]
  | .set_6_atHL => [0xCB, 0xF6]
  | .set_6_A => [0xCB, 0xF7]
  | .set_7_B => [0xCB, 0xF8]
  | .set_7_C => [0xCB, 0xF9]
  | .set_7_D => [0xCB, 0xFA]
  | .set_7_E => [0xCB, 0xFB]
  | .set_7_H => [0xCB, 0xFC]
  | .set_7_L => [0xCB, 0xFD]
  | .set_7_atHL => [0xCB, 0xFE]
  | .set_7_A => [0xCB, 0xFF]

/-- The bytes of an instruction whose bits are `w`, `nbits` of them, as `spec/opcode_table.json` numbers them: a
base row is one byte; an extended row is the 16-bit number `byte 0 :: byte 1` (R166: `0xCBnn`). A 16-bit number
that does not have the prefix in its high byte is read with byte 0 in its low byte.
DESIGN CHOICE (notes/assumptions/11.md). -/
def tableBytes (nbits w : Nat) : List Byte :=
  if nbits ≤ 8 then [BitVec.ofNat 8 w]
  else if nbits ≤ 16 then
    if w / 256 % 256 = 0xCB then [BitVec.ofNat 8 (w / 256), BitVec.ofNat 8 w]
    else [BitVec.ofNat 8 w, BitVec.ofNat 8 (w / 256)]
  else [BitVec.ofNat 8 w, BitVec.ofNat 8 (w / 256), BitVec.ofNat 8 (w / 65536)]

/-- The byte length the TABLE gives the row that begins with `op`: the instruction's length, but 1 for the
prefix row (R141). -/
def rowLength (op : Byte) : Nat :=
  match baseEntry op with
  | .extended => 1
  | e => e.length

/-- `bs`, extended with zero bytes up to `n` bytes. -/
def padTo (n : Nat) (bs : List Byte) : List Byte := bs ++ List.replicate (n - bs.length) 0

/-- The instruction the decoder reads from an opcode-table word whose operand bytes are zero. -/
def decodeTableWord (nbits w : Nat) : Option Instr :=
  let bs := tableBytes nbits w
  match decode (padTo (rowLength (bs.headD 0)) bs) with
  | .ok (i, _) => some i
  | .error _ => none

end Sys2Proof
end

