-- ==== Sys2Proof/Config.lean ====
section
/-! DEFINITION. Named constants (spec/00_scope.md R8) and the open parameters that have a default (R10). -/

namespace Sys2Proof.Config

/-- Machine cycles of OamSearch (R8, decision D29). -/
def oamSearchCycles : Nat := 21
/-- Machine cycles of Transfer (R8, decision D29). -/
def transferCycles : Nat := 43
/-- Machine cycles of HBlank (R8, decision D29). -/
def hBlankCycles : Nat := 50
/-- Machine cycles of one VBlank line (R8, decision D29). -/
def vBlankLineCycles : Nat := 114
/-- Lines of a frame (R8). -/
def linesPerFrame : Nat := 154
/-- Visible lines (R8). -/
def visibleLines : Nat := 144
/-- Machine cycles of a frame, 114 * 154 (R8). -/
def cyclesPerFrame : Nat := 17556
/-- Machine cycles of interrupt service (R8, R352). -/
def interruptServiceCycles : Nat := 5
/-- Bytes of an object-memory transfer (R8, R396). -/
def oamDmaLength : Nat := 160
/-- Screen width in pixels (R8). -/
def screenWidth : Nat := 160

end Sys2Proof.Config

namespace Sys2Proof

/-- The open parameters of the spec that have a default (R10). They are DATA held in the state and never
changed by a step, so a claim about every state is a claim about every choice of them.
DESIGN CHOICE (notes/assumptions/5.md): reset holds the spec's defaults. -/
structure Params where
  /-- `HALT_BUG` (R10, R322). -/
  haltBug : Bool
  /-- `PROHIBITED_READ`, indexed by the address's low nibble (R10, R72). -/
  prohibitedRead : List Byte
  /-- `DUTY_TABLE`, four rows of eight waveform bits (R10, R496). -/
  dutyTable : List (List Bool)
  /-- `RESCALE5`, indexed by the 5-bit channel (R10, R446). -/
  rescale5 : List Byte
deriving DecidableEq, Repr

/-- The defaults of R10, R72, R496 and R446. -/
def Params.default : Params where
  haltBug := false
  prohibitedRead := (List.range 16).map fun n => BitVec.ofNat 8 (n * 17)
  dutyTable :=
    [[false, false, false, false, false, false, false, true],
     [true, false, false, false, false, false, false, true],
     [true, false, false, false, false, true, true, true],
     [false, true, true, true, true, true, true, false]]
  rescale5 := (List.range 32).map fun c => BitVec.ofNat 8 (c <<< 3 ||| c >>> 2)

/-- `RESET_REGS` (R10; `93_implementation_defined.md` I19, I20; `92_eei_decisions.md`): what the byte registers, `sp` and the
RAM arrays hold when a System is constructed. A RAM array holds the listed bytes from offset 0 on and 0x00 after
them. -/
structure ResetRegs where
  a : Byte
  f : Byte
  b : Byte
  c : Byte
  d : Byte
  e : Byte
  h : Byte
  l : Byte
  sp : Word
  vram : List Byte
  wram : List Byte
  oam : List Byte
  hram : List Byte
  bgPalette : List Byte
  objPalette : List Byte
  waveRam : List Byte
  cartRam : List Byte
deriving DecidableEq, Repr

/-- The default: all zero (R10, R50, R53). -/
def ResetRegs.default : ResetRegs where
  a := 0
  f := 0
  b := 0
  c := 0
  d := 0
  e := 0
  h := 0
  l := 0
  sp := 0
  vram := []
  wram := []
  oam := []
  hram := []
  bgPalette := []
  objPalette := []
  waveRam := []
  cartRam := []

end Sys2Proof
end

