-- ==== Sys2Proof/Machine/State.lean ====
section
/-! DEFINITION. The whole state of the iron-boy CORE (spec/10_state.md R20 to R56), its reset value (R50 to R54,
spec/70_reset_and_hazards.md R570), and the ways a step can stop. INVENTORY.md lists the fields one by one. -/

namespace Sys2Proof.Machine

/-- A storage array behind the bus (R36): (offset, byte) pairs, offsets strictly rising, no byte 0x00 listed; an
unlisted offset reads 0x00 (R53: every array is 0x00 at reset; R534: ROM is padded with 0x00; the boot image:
notes/assumptions/24.md). -/
abbrev Memory := List Host.Cell

/-- The two fatal reasons (R17, R342). -/
inductive FatalReason where
  | undefinedOpcode (byte : Byte) (addr : Word)
  | unimplementedLowPower (addr : Word)
deriving DecidableEq, Repr

/-- The four stored bits of `F` (R23: bits 3:0 are hard-wired 0, so they are not stored; R24). -/
structure Flags where
  z : Bool
  n : Bool
  h : Bool
  c : Bool
deriving DecidableEq, Repr

/-- The CPU (R20 to R33). `fetchAddr` is the variable `a` of `cpu_step` (R343 step 6), the address the opcode byte was
fetched from, which a fatal condition records (R342). -/
structure Cpu where
  a : Byte
  f : Flags
  b : Byte
  c : Byte
  d : Byte
  e : Byte
  h : Byte
  l : Byte
  sp : Word
  pc : Word
  ime : Bool
  imeDelay : Nat
  halted : Bool
  haltBug : Bool
  cyc : Nat
  fatal : Option FatalReason
  speedArmed : Bool
  doubleSpeed : Bool
  fetchAddr : Word
deriving DecidableEq, Repr

/-- The interrupt controller's two masks, `IE` and `IF` (R34, R35). -/
structure Irq where
  ie : Byte
  flags : Byte
deriving DecidableEq, Repr

/-- The boot overlay: the latch (R37), the image and the address ranges it covers, ends included (R10, R64). The
image and the ranges never change (notes/assumptions/2.md). Beyond its end the image reads 0x00: DESIGN CHOICE
(notes/assumptions/24.md). -/
structure Boot where
  mapped : Bool
  image : Memory
  overlay : List (Nat × Nat)
deriving DecidableEq, Repr

/-- Registers the bus itself owns: the mode bit (R41), the work RAM bank and the inert serial pair (R56). -/
structure Bus where
  enhanced : Bool
  svbk : BitVec 3
  sb : Byte
  sc : Byte
deriving DecidableEq, Repr

/-- The four bank-controller variants (R9, R531). -/
inductive CartKind where
  | noMbc | mbc1 | mbc3 | mbc5
deriving DecidableEq, Repr

/-- The five clock fields behind the RAM window (R556, R557). -/
inductive RtcField where
  | seconds | minutes | hours | dayLow | dayHigh
deriving DecidableEq, Repr

/-- The clock snapshot that reads see (R45, R555). -/
structure RtcLatch where
  s : Nat
  m : Nat
  h : Nat
  d : Nat
  halt : Bool
  carry : Bool
deriving DecidableEq, Repr

/-- The real-time clock (R45). -/
structure Rtc where
  base : Int
  halted : Bool
  frozen : Nat
  carry : Bool
  latched : RtcLatch
  latchPrev : Byte
  select : Option RtcField
deriving DecidableEq, Repr

/-- The cartridge: its fixed configuration and image (R9), its RAM (R36), its bank state (R44), its clock. -/
structure Cart where
  kind : CartKind
  hasRam : Bool
  hasBattery : Bool
  hasRtc : Bool
  romSize : Nat
  ramSize : Nat
  rom : Memory
  ram : Memory
  romBank : Nat
  ramBank : Nat
  ramEnabled : Bool
  advanced : Bool
  rtc : Rtc
deriving DecidableEq, Repr

/-- The timer (R39). -/
structure Timer where
  divCounter : BitVec 16
  tima : Byte
  tma : Byte
  tac : BitVec 3
deriving DecidableEq, Repr

/-- The two transfer kinds (R40). -/
inductive DmaKind where
  | objectMemory | general
deriving DecidableEq, Repr

/-- A transfer in progress (R40). -/
structure Transfer where
  kind : DmaKind
  length : Nat
  done : Nat
  src : Word
  dst : Word
deriving DecidableEq, Repr

/-- The DMA controller (R40). -/
structure Dma where
  transfer : Option Transfer
  hdmaSrc : Word
  hdmaDst : Word
  oamDmaReg : Byte
deriving DecidableEq, Repr

/-- The four video modes (R42). -/
inductive VideoMode where
  | oamSearch | transfer | hBlank | vBlank
deriving DecidableEq, Repr

/-- The video controller (R42). -/
structure Video where
  mode : VideoMode
  modeCycles : Nat
  ly : Nat
  statLinePrev : Bool
  windowLine : Nat
  frameBlank : Bool
  lcdc : Byte
  statSel : BitVec 4
  scy : Byte
  scx : Byte
  lyc : Byte
  bgp : Byte
  obp0 : Byte
  obp1 : Byte
  wy : Byte
  wx : Byte
  vbk : BitVec 1
  bcps : Byte
  ocps : Byte
deriving DecidableEq, Repr

/-- The envelope of channels 1, 2 and 4: the register copies and the running copy (R43). -/
structure Envelope where
  initVolume : BitVec 4
  envDir : Bool
  envPace : BitVec 3
  volume : Nat
  direction : Bool
  pace : BitVec 3
  countdown : Nat
deriving DecidableEq, Repr

/-- A pulse channel, 1 or 2 (R43). -/
structure Pulse where
  enabled : Bool
  divider : Nat
  length : Nat
  lengthEnable : Bool
  period : BitVec 11
  duty : BitVec 2
  dutyPos : Nat
  env : Envelope
deriving DecidableEq, Repr

/-- The sweep unit of channel 1 (R43). -/
structure Sweep where
  pace : BitVec 3
  direction : Bool
  shift : BitVec 3
  countdown : Nat
deriving DecidableEq, Repr

/-- The custom-waveform channel 3 (R43). -/
structure Wave where
  enabled : Bool
  divider : Nat
  length : Nat
  lengthEnable : Bool
  period : BitVec 11
  dacOn : Bool
  level : BitVec 2
  wavePos : Nat
deriving DecidableEq, Repr

/-- The noise channel 4 (R43). -/
structure Noise where
  enabled : Bool
  divider : Nat
  length : Nat
  lengthEnable : Bool
  env : Envelope
  lfsr : BitVec 16
  clockShift : BitVec 4
  shortMode : Bool
  divCode : BitVec 3
deriving DecidableEq, Repr

/-- The sound controller (R43). -/
structure Sound where
  ch1 : Pulse
  sweep : Sweep
  ch2 : Pulse
  ch3 : Wave
  ch4 : Noise
  power : Bool
  nr50 : Byte
  nr51 : Byte
  seqCounter : Nat
  seqPrevBit : Bool
  powerOffPending : Bool
deriving DecidableEq, Repr

/-- The eight buttons (R46, R112). -/
inductive Button where
  | right | left | up | down | a | b | select | start
deriving DecidableEq, Repr

/-- Which buttons are held (R46). -/
structure Buttons where
  right : Bool
  left : Bool
  up : Bool
  down : Bool
  a : Bool
  b : Bool
  select : Bool
  start : Bool
deriving DecidableEq, Repr

/-- The joypad (R46). -/
structure Joypad where
  buttons : Buttons
  select : BitVec 2
deriving DecidableEq, Repr

/-- `handle_joypad(button, pressed | released)` (R112). -/
structure JoypadEvent where
  button : Button
  pressed : Bool
deriving DecidableEq, Repr

/-- What the host does in the gap before one machine cycle: at most one joypad event (R48, R112), and how many
whole seconds the wall clock advances (R553: it never decreases). The MODEL's own field
(notes/assumptions/6.md). -/
structure CycleInput where
  joypad : Option JoypadEvent
  seconds : Nat
deriving DecidableEq, Repr

/-- A pixel of the frame buffer: red, green, blue, alpha (R448). -/
structure Pixel where
  r : Byte
  g : Byte
  b : Byte
  alpha : Byte
deriving DecidableEq, Repr

/-- The state of the whole CORE. The last three fields are the model's own: the open parameters
(notes/assumptions/5.md), the wall clock and the host's pending inputs (notes/assumptions/6.md). -/
structure State where
  cpu : Cpu
  irq : Irq
  boot : Boot
  bus : Bus
  cart : Cart
  vram : Memory
  wram : Memory
  oam : Memory
  hram : Memory
  bgPalette : Memory
  objPalette : Memory
  waveRam : Memory
  timer : Timer
  dma : Dma
  video : Video
  sound : Sound
  joypad : Joypad
  frameCycle : Nat
  /-- The 144 lines, top first; `none` is a line nothing has written yet (R47, notes/assumptions/9.md). -/
  frameBuffer : List (Option (List Pixel))
  /-- The sample pairs (left, right) as numerators over 960 (R507, R508), NEWEST FIRST (notes/assumptions/10.md). -/
  audioOut : List (Int × Int)
  params : Params
  now : Nat
  inputs : List CycleInput
deriving DecidableEq, Repr

/-- How a step can stop. -/
inductive Fault where
  /-- Raised by `step` alone, on a state whose `fatal` field is set: "a CORE with `fatal = some r` never changes
  state again" (R341), here the terminal stuck outcome the same rule asks for. Safe: the model stops where the
  hardware changes nothing more. -/
  | fatal (reason : FatalReason)
deriving DecidableEq, Repr

/-- Why an instruction has no meaning in the model. -/
inductive Refusal where
  /-- Raised by an arm of `exec` whose instruction has no meaning yet. No arm does. Safe: the model stops. -/
  | notModelled (mnemonic : String)
deriving DecidableEq, Repr

/-- What a meaning or a step answers. -/
abbrev Out := Host.Outcome State Fault Refusal

/-! Reset. -/

/-- R50, R30; the default of `RESET_REGS` (R10). `fetchAddr` is written before it is read: DESIGN CHOICE
(notes/assumptions/14.md). -/
def Cpu.reset : Cpu where
  a := 0
  f := ⟨false, false, false, false⟩
  b := 0
  c := 0
  d := 0
  e := 0
  h := 0
  l := 0
  sp := 0
  pc := 0
  ime := false
  imeDelay := 0
  halted := false
  haltBug := false
  cyc := 0
  fatal := none
  speedArmed := false
  doubleSpeed := false
  fetchAddr := 0

/-- R560 with `WALL_CLOCK(0)` as the clock's value at construction. -/
def Rtc.reset (now : Nat) : Rtc where
  base := now
  halted := false
  frozen := 0
  carry := false
  latched := ⟨0, 0, 0, 0, false, false⟩
  latchPrev := 0xFF
  select := none

/-- The cartridge of the empty image: `NoMbc`, 32 KiB of zero bytes, no RAM (R530, R531, R532, R534), with the
bank state of R563. DESIGN CHOICE (notes/assumptions/1.md): the spec's reset takes the image as an argument. -/
def Cart.reset : Cart where
  kind := .noMbc
  hasRam := false
  hasBattery := false
  hasRtc := false
  romSize := 32768
  ramSize := 0
  rom := []
  ram := []
  romBank := 1
  ramBank := 0
  ramEnabled := false
  advanced := false
  rtc := Rtc.reset 0

/-- R452, R51. -/
def Video.reset : Video where
  mode := .oamSearch
  modeCycles := 0
  ly := 0
  statLinePrev := false
  windowLine := 0
  frameBlank := false
  lcdc := 0
  statSel := 0
  scy := 0
  scx := 0
  lyc := 0
  bgp := 0
  obp0 := 0
  obp1 := 0
  wy := 0
  wx := 0
  vbk := 0
  bcps := 0
  ocps := 0

/-- R54. -/
def Envelope.reset : Envelope := ⟨0, false, 0, 0, false, 0, 0⟩
/-- R54. -/
def Pulse.reset : Pulse := ⟨false, 0, 0, false, 0, 0, 0, Envelope.reset⟩
/-- R54. -/
def Wave.reset : Wave := ⟨false, 0, 0, false, 0, false, 0, 0⟩
/-- R54. -/
def Noise.reset : Noise := ⟨false, 0, 0, false, Envelope.reset, 0, 0, false, 0⟩

/-- R521, R54: every field of R43 zero or false. -/
def Sound.reset : Sound where
  ch1 := Pulse.reset
  sweep := ⟨0, false, 0, 0⟩
  ch2 := Pulse.reset
  ch3 := Wave.reset
  ch4 := Noise.reset
  power := false
  nr50 := 0
  nr51 := 0
  seqCounter := 0
  seqPrevBit := false
  powerOffPending := false

/-- The boot overlay at reset: mapped (R51). PRESUMED (notes/assumptions/2.md): the ranges are the family's, which
R64 notes; the image lists nothing, so it reads 0x00. -/
def Boot.reset : Boot where
  mapped := true
  image := []
  overlay := [(0x0000, 0x00FF), (0x0200, 0x08FF)]

/-- The machine right after reset (R50 to R56, R570). -/
def State.reset : State where
  cpu := Cpu.reset
  irq := ⟨0, 0⟩
  boot := Boot.reset
  bus := ⟨true, 0, 0, 0⟩
  cart := Cart.reset
  vram := []
  wram := []
  oam := []
  hram := []
  bgPalette := []
  objPalette := []
  waveRam := []
  timer := ⟨0, 0, 0, 0⟩
  dma := ⟨none, 0, 0, 0⟩
  video := Video.reset
  sound := Sound.reset
  joypad := ⟨⟨false, false, false, false, false, false, false, false⟩, 0⟩
  frameCycle := 0
  frameBuffer := List.replicate 144 none
  audioOut := []
  params := Params.default
  now := 0
  inputs := []

end Sys2Proof.Machine
end

