-- ==== Sys2Proof/Machine/Memory.lean ====
section
/-! DEFINITION. Reading and writing one storage array (spec/10_state.md R36), kept in one canonical form. -/

namespace Sys2Proof.Machine

/-- The byte at an offset. An unlisted offset reads 0x00 (R53, R534; of the boot image, notes/assumptions/24.md). -/
def Memory.read : Memory → Nat → Byte
  | [], _ => 0#8
  | (k, v) :: rest, i => if i = k then v else if i < k then 0#8 else Memory.read rest i

/-- Storing a byte at an offset; storing 0x00 takes the entry away. -/
def Memory.write : Memory → Nat → Byte → Memory
  | [], i, v => if v = 0#8 then [] else [(i, v)]
  | (k, w) :: rest, i, v =>
    if i < k then (if v = 0#8 then (k, w) :: rest else (i, v) :: (k, w) :: rest)
    else if i = k then (if v = 0#8 then rest else (i, v) :: rest)
    else (k, w) :: Memory.write rest i v

/-- Offsets strictly rise from `lo` on and no listed byte is 0x00. -/
def Memory.risingFrom : Nat → Memory → Bool
  | _, [] => true
  | lo, (k, v) :: rest => decide (lo ≤ k) && decide (v ≠ 0#8) && Memory.risingFrom (k + 1) rest

/-- The canonical form: equal contents are equal lists. -/
def Memory.wf (m : Memory) : Bool := Memory.risingFrom 0 m

/-- Every listed offset is below `n` (the array has `n` bytes). -/
def Memory.below (n : Nat) (m : Memory) : Bool := m.all fun c => decide (c.1 < n)

/-- The array that holds `bs` from offset `i` on. -/
def Memory.ofBytesFrom : Nat → List Byte → Memory
  | _, [] => []
  | i, v :: rest =>
    if v = 0#8 then Memory.ofBytesFrom (i + 1) rest else (i, v) :: Memory.ofBytesFrom (i + 1) rest

/-- The bytes at offsets `i`, `i + 1`, ..., `i + n - 1`. -/
def Memory.bytesFrom (m : Memory) (i : Nat) : Nat → List Byte
  | 0 => []
  | n + 1 => Memory.read m i :: Memory.bytesFrom m (i + 1) n

end Sys2Proof.Machine
end

