-- ==== Sys2Proof/Machine/Cartridge.lean ====
section
/-! DEFINITION. The bank controller and the real-time clock (spec/65_cartridge.md R535 to R559). -/

namespace Sys2Proof.Machine

/-! Bank arithmetic (R535). -/

/-- `alias(b)` of R535: bank 0 shows as bank 1 in the switchable window. -/
def aliasBank (b : Nat) : Nat := if b = 0 then 1 else b

/-- The offset in `ROM` that `rom_byte(bank, off)` reads (R535). -/
def romByteOffset (c : Cart) (bank off : Nat) : Nat := bank % (c.romSize / 16384) * 16384 + off

/-- `ram_byte_index(bank, off)` (R535). -/
def ramByteIndex (c : Cart) (bank off : Nat) : Nat := (bank * 8192 + off) % c.ramSize

/-- The enable test `en(v)` (R535). -/
def ramEnableTest (v : Byte) : Bool := v &&& 0x0F == 0x0A

/-- `rom_offset`: the offset in `ROM` an address 0x0000-0x7FFF reads (R536, R540, R546, R549). -/
def romOffset (c : Cart) (addr : Nat) : Nat :=
  match c.kind with
  | .noMbc => addr % c.romSize
  | .mbc1 =>
    if addr < 0x4000 then romByteOffset c (if c.advanced then c.ramBank <<< 5 else 0) addr
    else romByteOffset c (c.ramBank <<< 5 ||| aliasBank c.romBank) (addr - 0x4000)
  | .mbc3 | .mbc5 =>
    if addr < 0x4000 then romByteOffset c 0 addr
    else romByteOffset c (aliasBank c.romBank) (addr - 0x4000)

/-- What the RAM window 0xA000-0xBFFF shows at an offset: a byte of `cart_ram`, a clock field, or nothing. -/
inductive CartWindow where
  | ram (i : Nat)
  | clock (f : RtcField)
  | nothing
deriving DecidableEq, Repr

/-- The RAM window (R538, R545, R548, R551). -/
def cartWindow (c : Cart) (off : Nat) : CartWindow :=
  match c.kind with
  | .noMbc => if c.ramSize = 0 then .nothing else .ram (ramByteIndex c 0 off)
  | .mbc1 =>
    if !c.ramEnabled || c.ramSize == 0 then .nothing
    else .ram (ramByteIndex c (if c.advanced then c.ramBank else 0) off)
  | .mbc3 =>
    if !c.ramEnabled then .nothing
    else
      match c.rtc.select with
      | some f => .clock f
      | none => if c.ramSize = 0 then .nothing else .ram (ramByteIndex c c.ramBank off)
  | .mbc5 =>
    if !c.ramEnabled || c.ramSize == 0 then .nothing
    else .ram (ramByteIndex c c.ramBank off)

/-! The clock (R552 to R558). -/

/-- Seconds in 512 days. -/
def rtcSpan : Nat := 512 * 86400

/-- `elapsed()` (R553). -/
def Rtc.elapsed (r : Rtc) (now : Nat) : Nat :=
  if r.halted then r.frozen else ((now : Int) - r.base).toNat

/-- `normalise()` (R554), its loop run to the end at once: the elapsed time loses as many whole spans of 512
days as it holds, and the carry is set if there was one. DEDUCED (notes/assumptions/19.md). -/
def Rtc.normalise (r : Rtc) (now : Nat) : Rtc :=
  let spans := r.elapsed now / rtcSpan
  if spans = 0 then r
  else if r.halted then { r with carry := true, frozen := r.frozen - spans * rtcSpan }
  else { r with carry := true, base := r.base + (spans * rtcSpan : Nat) }

/-- `sec(e)` (R552). -/
def secOf (e : Nat) : Nat := e % 60
/-- `min(e)` (R552). -/
def minOf (e : Nat) : Nat := e / 60 % 60
/-- `hour(e)` (R552). -/
def hourOf (e : Nat) : Nat := e / 3600 % 24
/-- `day(e)` (R552). -/
def dayOf (e : Nat) : Nat := e / 86400

/-- `rtc_latch()` (R555). -/
def Rtc.latch (r : Rtc) (now : Nat) : Rtc :=
  let r := r.normalise now
  let e := r.elapsed now
  { r with latched := ⟨secOf e, minOf e, hourOf e, dayOf e, r.halted, r.carry⟩ }

/-- A clock read: the snapshot, never the live time (R556). -/
def Rtc.readField (r : Rtc) : RtcField → Byte
  | .seconds => BitVec.ofNat 8 r.latched.s
  | .minutes => BitVec.ofNat 8 r.latched.m
  | .hours => BitVec.ofNat 8 r.latched.h
  | .dayLow => BitVec.ofNat 8 r.latched.d
  | .dayHigh => bitAt r.latched.carry 7 ||| bitAt r.latched.halt 6 ||| bitAt (r.latched.d.testBit 8) 0

/-- `set_elapsed(e')` (R557). -/
def Rtc.setElapsed (r : Rtc) (now e : Nat) : Rtc :=
  if r.halted then { r with frozen := e } else { r with base := (now : Int) - e }

/-- The halt change (R558). -/
def Rtc.setHalt (r : Rtc) (now : Nat) (h : Bool) : Rtc :=
  if h && !r.halted then { r with frozen := ((now : Int) - r.base).toNat, halted := true }
  else if !h && r.halted then { r with base := (now : Int) - r.frozen, halted := false }
  else r

/-- A clock write (R557): only the one field of the elapsed time is replaced, with the value at the field's width; the
snapshot's same field becomes the value as written. The last field's snapshot has only three bits (R45, R556).
DEDUCED (notes/assumptions/15.md). -/
def Rtc.writeField (r : Rtc) (now : Nat) (f : RtcField) (v : Byte) : Rtc :=
  let r := r.normalise now
  let e := r.elapsed now
  let l := r.latched
  match f with
  | .seconds =>
    let x := (v &&& 0x3F).toNat
    { r.setElapsed now (e - secOf e + x) with latched := { l with s := v.toNat } }
  | .minutes =>
    let x := (v &&& 0x3F).toNat
    { r.setElapsed now (e - 60 * minOf e + 60 * x) with latched := { l with m := v.toNat } }
  | .hours =>
    let x := (v &&& 0x1F).toNat
    { r.setElapsed now (e - 3600 * hourOf e + 3600 * x) with latched := { l with h := v.toNat } }
  | .dayLow =>
    { r.setElapsed now (e - 86400 * (dayOf e % 256) + 86400 * v.toNat) with
      latched := { l with d := l.d / 256 * 256 + v.toNat } }
  | .dayHigh =>
    let x := carryIn (bit v 0)
    let r := { r.setElapsed now (e - 86400 * 256 * (dayOf e / 256) + 86400 * 256 * x) with carry := bit v 7 }
    { r.setHalt now (bit v 6) with
      latched := { l with d := l.d % 256 + 256 * x, halt := bit v 6, carry := bit v 7 } }

/-! Bank-select writes, 0x0000-0x7FFF (R537, R541 to R544, R547, R550). -/

/-- The clock field an index 0x08 to 0x0C selects (R547, R556). -/
def rtcFieldOf (v : Byte) : Option RtcField :=
  if v = 0x08 then some .seconds
  else if v = 0x09 then some .minutes
  else if v = 0x0A then some .hours
  else if v = 0x0B then some .dayLow
  else if v = 0x0C then some .dayHigh
  else none

/-- `Mbc1` writes (R541 to R544). -/
def mbc1Write (c : Cart) (addr : Nat) (v : Byte) : Cart :=
  if addr < 0x2000 then { c with ramEnabled := ramEnableTest v }
  else if addr < 0x4000 then { c with romBank := v.toNat % 32 }
  else if addr < 0x6000 then { c with ramBank := v.toNat % 4 }
  else { c with advanced := bit v 0 }

/-- `Mbc3` writes (R547). -/
def mbc3Write (c : Cart) (now addr : Nat) (v : Byte) : Cart :=
  if addr < 0x2000 then { c with ramEnabled := ramEnableTest v }
  else if addr < 0x4000 then { c with romBank := v.toNat % 128 }
  else if addr < 0x6000 then
    if v.toNat ≤ 3 then { c with ramBank := v.toNat, rtc := { c.rtc with select := none } }
    else if c.hasRtc then
      match rtcFieldOf v with
      | some f => { c with rtc := { c.rtc with select := some f } }
      | none => c
    else c
  else
    let r := if c.hasRtc && c.rtc.latchPrev == 0 && v == 1 then c.rtc.latch now else c.rtc
    { c with rtc := { r with latchPrev := v } }

/-- `Mbc5` writes (R550). -/
def mbc5Write (c : Cart) (addr : Nat) (v : Byte) : Cart :=
  if addr < 0x2000 then { c with ramEnabled := ramEnableTest v }
  else if addr < 0x3000 then { c with romBank := c.romBank / 256 * 256 + v.toNat }
  else if addr < 0x4000 then { c with romBank := c.romBank % 256 + 256 * (v.toNat % 2) }
  else if addr < 0x6000 then { c with ramBank := v.toNat % 16 }
  else c

/-- A write to 0x0000-0x7FFF (R65, R537). -/
def Cart.bankWrite (c : Cart) (now addr : Nat) (v : Byte) : Cart :=
  match c.kind with
  | .noMbc => c
  | .mbc1 => mbc1Write c addr v
  | .mbc3 => mbc3Write c now addr v
  | .mbc5 => mbc5Write c addr v

end Sys2Proof.Machine
end

