-- ==== Sys2Proof/Machine/Dma.lean ====
section
/-! DEFINITION. The DMA controller's registers and the stall (spec/62_dma.md R396 to R404). Its step is in
Machine/Transfer.lean. -/

namespace Sys2Proof.Machine

/-- A write to the object-memory start register (R396); an active transfer is replaced (R405). -/
def Dma.startObjectMemory (d : Dma) (v : Byte) : Dma :=
  { d with
    oamDmaReg := v
    transfer := some ⟨.objectMemory, Config.oamDmaLength, 0, joinBytes v 0, 0⟩ }

/-- HDMA1 write (R399). -/
def Dma.writeSrcHigh (d : Dma) (v : Byte) : Dma := { d with hdmaSrc := joinBytes v (loByte d.hdmaSrc) }
/-- HDMA2 write (R399). -/
def Dma.writeSrcLow (d : Dma) (v : Byte) : Dma := { d with hdmaSrc := joinBytes (hiByte d.hdmaSrc) (v &&& 0xF0) }
/-- HDMA3 write (R400). -/
def Dma.writeDstHigh (d : Dma) (v : Byte) : Dma := { d with hdmaDst := joinBytes v (loByte d.hdmaDst) }
/-- HDMA4 write (R400). -/
def Dma.writeDstLow (d : Dma) (v : Byte) : Dma := { d with hdmaDst := joinBytes (hiByte d.hdmaDst) (v &&& 0xF0) }

/-- A write to HDMA5 (R401); bit 7 is ignored, an active transfer is replaced (R405). -/
def Dma.startGeneral (d : Dma) (v : Byte) : Dma :=
  { d with
    transfer := some ⟨.general, (v.toNat % 128 + 1) * 16, 0, d.hdmaSrc &&& 0xFFF0, d.hdmaDst &&& 0x1FF0⟩ }

/-- `stalled` (R404): a function of `dma`, not state of its own. -/
def Dma.stalled (d : Dma) : Bool :=
  match d.transfer with
  | some t => t.kind == .general
  | none => false

end Sys2Proof.Machine
end

