-- ==== Sys2Proof/Machine/Irq.lean ====
section
/-! DEFINITION. The interrupt controller's operations (spec/60_exceptions.md R345 to R349). -/

namespace Sys2Proof.Machine

/-- `request(k)` (R346). -/
def Irq.request (q : Irq) (k : Nat) : Irq := { q with flags := q.flags ||| (1#8 <<< k) }

/-- `IE & IF` (R347). -/
def Irq.masked (q : Irq) : Byte := q.ie &&& q.flags

/-- `pending()` (R347). -/
def Irq.pending (q : Irq) : Bool := q.masked != 0

/-- The index of the lowest set bit, if any (R348: bit 0 has the highest priority). -/
def lowestBit (m : Byte) : Option Nat := (List.range 8).find? fun k => bit m k

/-- `pop()` (R348). -/
def Irq.pop (q : Irq) : Option Nat × Irq :=
  match lowestBit q.masked with
  | none => (none, q)
  | some k => (some k, { q with flags := q.flags &&& ~~~(1#8 <<< k) })

/-- `request(k)` on the whole state. -/
def State.request (s : State) (k : Nat) : State := { s with irq := s.irq.request k }

/-- VBlank's bit (R345). -/
def irqVBlank : Nat := 0
/-- STAT's bit (R345). -/
def irqStat : Nat := 1
/-- The timer's bit (R345). -/
def irqTimer : Nat := 2
/-- The joypad's bit (R345). -/
def irqJoypad : Nat := 4

end Sys2Proof.Machine
end

