-- ==== Sys2Proof/Machine/Joypad.lean ====
section
/-! DEFINITION. The joypad register and the joypad event (spec/21_io_registers.md R111, R112). -/

namespace Sys2Proof.Machine

/-- `buttons[button] <- v` (R112). -/
def Buttons.set (bs : Buttons) (k : Button) (v : Bool) : Buttons :=
  match k with
  | .right => { bs with right := v }
  | .left => { bs with left := v }
  | .up => { bs with up := v }
  | .down => { bs with down := v }
  | .a => { bs with a := v }
  | .b => { bs with b := v }
  | .select => { bs with select := v }
  | .start => { bs with start := v }

/-- `handle_joypad` (R112): a press always raises the joypad interrupt, a release none. -/
def handleJoypad (e : JoypadEvent) (s : State) : State :=
  let s' := { s with joypad := { s.joypad with buttons := s.joypad.buttons.set e.button e.pressed } }
  if e.pressed then s'.request irqJoypad else s'

/-- P1 read (R111). -/
def Joypad.read (j : Joypad) : Byte :=
  let dirs := !j.select.getLsbD 0
  let acts := !j.select.getLsbD 1
  let low (dir act : Bool) : Bool := !((dirs && dir) || (acts && act))
  0xC0#8 ||| (j.select.setWidth 8 <<< 4) |||
    bitAt (low j.buttons.right j.buttons.a) 0 ||| bitAt (low j.buttons.left j.buttons.b) 1 |||
    bitAt (low j.buttons.up j.buttons.select) 2 ||| bitAt (low j.buttons.down j.buttons.start) 3

/-- P1 write (R111). -/
def Joypad.write (j : Joypad) (v : Byte) : Joypad := { j with select := v.extractLsb' 4 2 }

end Sys2Proof.Machine
end

