-- ==== Sys2Proof/Machine/Sound.lean ====
section
/-! DEFINITION. The sound controller: registers, channel generators, frame sequencer, mixer
(spec/64_sound.md R471 to R521). -/

namespace Sys2Proof.Machine

/-! Units a channel is made of. -/

/-- The digital-to-analog condition of channels 1, 2 and 4, on the register copies (R504). -/
def Envelope.dac (e : Envelope) : Bool := e.initVolume != 0 || e.envDir

/-- NRx2 as read (R473): the three stored fields make the stored byte. -/
def Envelope.read (e : Envelope) : Byte :=
  (e.initVolume.setWidth 8 <<< 4) ||| bitAt e.envDir 3 ||| e.envPace.setWidth 8

/-- NRx2's register copies (R473); the running envelope is not touched. -/
def Envelope.write (e : Envelope) (v : Byte) : Envelope :=
  { e with initVolume := v.extractLsb' 4 4, envDir := bit v 3, envPace := v.extractLsb' 0 3 }

/-- The envelope's part of a trigger (R512). -/
def Envelope.trigger (e : Envelope) : Envelope :=
  { e with
    volume := e.initVolume.toNat
    direction := e.envDir
    pace := e.envPace
    countdown := e.envPace.toNat }

/-- `envelope_clock()` for one channel (R502). -/
def Envelope.clock (e : Envelope) : Envelope :=
  if e.pace = 0 then e
  else if e.countdown - 1 = 0 then
    { e with
      volume :=
        if e.direction then (if e.volume < 15 then e.volume + 1 else e.volume) else e.volume - 1
      countdown := e.pace.toNat }
  else { e with countdown := e.countdown - 1 }

/-- The length counter after one length clock (R501). -/
def lengthNext (max length : Nat) : Nat := if length < max then length + 1 else length

/-- The length counter after a trigger (R512). -/
def lengthTriggered (max length : Nat) : Nat := if length = max then 0 else length

/-- `period[7:0] <- v` (R474). -/
def periodLow (p : BitVec 11) (v : Byte) : BitVec 11 := (p.extractLsb' 8 3 ++ v : BitVec 11)

/-- `period[10:8] <- v[2:0]` (R475). -/
def periodHigh (p : BitVec 11) (v : Byte) : BitVec 11 := (v.extractLsb' 0 3 ++ p.extractLsb' 0 8 : BitVec 11)

/-- `2048 - period` (R496, R497). -/
def periodReload (p : BitVec 11) : Nat := 2048 - p.toNat

/-! Pulse channels 1 and 2. -/

/-- One divider clock (R495, R496). -/
def Pulse.clock (p : Pulse) : Pulse :=
  if p.divider ≤ 1 then { p with dutyPos := (p.dutyPos + 1) % 8, divider := periodReload p.period }
  else { p with divider := p.divider - 1 }

/-- One length clock (R501). -/
def Pulse.lengthClock (p : Pulse) : Pulse :=
  if p.lengthEnable then
    { p with
      length := lengthNext 64 p.length
      enabled := if lengthNext 64 p.length = 64 then false else p.enabled }
  else p

/-- `trigger(1)` and `trigger(2)`, the sweep apart (R512). -/
def Pulse.trigger (p : Pulse) : Pulse :=
  { p with
    enabled := p.env.dac
    length := lengthTriggered 64 p.length
    divider := periodReload p.period
    env := p.env.trigger }

/-- NRx1 write (R472). -/
def Pulse.writeLength (p : Pulse) (v : Byte) : Pulse :=
  { p with duty := v.extractLsb' 6 2, length := v.toNat % 64 }

/-- NRx2 write (R473). -/
def Pulse.writeEnvelope (p : Pulse) (v : Byte) : Pulse :=
  { p with env := p.env.write v, enabled := if v &&& 0xF8 = 0 then false else p.enabled }

/-- NRx4 write, the trigger apart (R475). -/
def Pulse.writeControl (p : Pulse) (v : Byte) : Pulse :=
  { p with period := periodHigh p.period v, lengthEnable := bit v 6 }

/-- `vol - 2 s` of an audible pulse channel, else 0: fifteen times `analog` (R505, R506). -/
def Pulse.analog (table : List (List Bool)) (p : Pulse) : Int :=
  if p.enabled && p.env.dac then
    if (table.getD p.duty.toNat []).getD p.dutyPos false then -(p.env.volume : Int) else p.env.volume
  else 0

/-! Channel 3. -/

/-- One divider clock (R495, R497). -/
def Wave.clock (w : Wave) : Wave :=
  if w.divider ≤ 1 then { w with wavePos := (w.wavePos + 1) % 32, divider := periodReload w.period }
  else { w with divider := w.divider - 1 }

/-- One length clock (R501). -/
def Wave.lengthClock (w : Wave) : Wave :=
  if w.lengthEnable then
    { w with
      length := lengthNext 256 w.length
      enabled := if lengthNext 256 w.length = 256 then false else w.enabled }
  else w

/-- `trigger(3)` (R512). -/
def Wave.trigger (w : Wave) : Wave :=
  { w with
    enabled := w.dacOn
    length := lengthTriggered 256 w.length
    divider := periodReload w.period
    wavePos := 0 }

/-- NR34 write, the trigger apart (R484). -/
def Wave.writeControl (w : Wave) (v : Byte) : Wave :=
  { w with period := periodHigh w.period v, lengthEnable := bit v 6 }

/-- The current 4-bit sample (R497). -/
def Wave.nibble (ram : Memory) (w : Wave) : Nat :=
  let v := (Memory.read ram (w.wavePos / 2)).toNat
  if w.wavePos % 2 = 0 then v / 16 else v % 16

/-- `15 - 2 s` when channel 3 is audible, else 0 (R505, R506). -/
def Wave.analog (ram : Memory) (w : Wave) : Int :=
  if w.enabled && w.dacOn then
    15 - 2 * ((if w.level = 0 then 0 else w.nibble ram >>> (w.level.toNat - 1) : Nat) : Int)
  else 0

/-! Channel 4. -/

/-- The noise reload value (R498). -/
def Noise.reload (n : Noise) : Nat := (if n.divCode = 0 then 2 else 4 * n.divCode.toNat) <<< n.clockShift.toNat

/-- One shift of the register (R498). -/
def lfsrNext (short : Bool) (r : BitVec 16) : BitVec 16 :=
  let x := !(r.getLsbD 0 ^^ r.getLsbD 1)
  let r := if x then r ||| 0x8000 else r &&& 0x7FFF
  let r := if short then (if x then r ||| 0x0080 else r &&& 0xFF7F) else r
  r >>> 1

/-- One divider clock (R495, R498). -/
def Noise.clock (n : Noise) : Noise :=
  if n.divider ≤ 1 then { n with lfsr := lfsrNext n.shortMode n.lfsr, divider := n.reload }
  else { n with divider := n.divider - 1 }

/-- One length clock (R501). -/
def Noise.lengthClock (n : Noise) : Noise :=
  if n.lengthEnable then
    { n with
      length := lengthNext 64 n.length
      enabled := if lengthNext 64 n.length = 64 then false else n.enabled }
  else n

/-- `trigger(4)` (R512). -/
def Noise.trigger (n : Noise) : Noise :=
  { n with
    enabled := n.env.dac
    length := lengthTriggered 64 n.length
    divider := n.reload
    env := n.env.trigger
    lfsr := 0 }

/-- NR42 write (R486). -/
def Noise.writeEnvelope (n : Noise) (v : Byte) : Noise :=
  { n with env := n.env.write v, enabled := if v &&& 0xF8 = 0 then false else n.enabled }

/-- NR43 read (R487). -/
def Noise.readFrequency (n : Noise) : Byte :=
  (n.clockShift.setWidth 8 <<< 4) ||| bitAt n.shortMode 3 ||| n.divCode.setWidth 8

/-- NR43 write (R487). -/
def Noise.writeFrequency (n : Noise) (v : Byte) : Noise :=
  { n with clockShift := v.extractLsb' 4 4, shortMode := bit v 3, divCode := v.extractLsb' 0 3 }

/-- `vol - 2 s` of an audible noise channel, else 0 (R505, R506). -/
def Noise.analog (n : Noise) : Int :=
  if n.enabled && n.env.dac then (if n.lfsr.getLsbD 0 then -(n.env.volume : Int) else n.env.volume) else 0

/-! The frame sequencer (R500 to R503). -/

/-- `length_clock()` (R501). -/
def Sound.lengthClock (s : Sound) : Sound :=
  { s with ch1 := s.ch1.lengthClock, ch2 := s.ch2.lengthClock, ch3 := s.ch3.lengthClock, ch4 := s.ch4.lengthClock }

/-- `envelope_clock()` (R502). -/
def Sound.envelopeClock (s : Sound) : Sound :=
  { s with
    ch1 := { s.ch1 with env := s.ch1.env.clock }
    ch2 := { s.ch2 with env := s.ch2.env.clock }
    ch4 := { s.ch4 with env := s.ch4.env.clock } }

/-- Channel 1 after a sweep that has counted down (R503). -/
def sweepPeriod (w : Sweep) (p : Pulse) : Pulse :=
  let d := p.period.toNat >>> w.shift.toNat
  if w.direction then { p with period := BitVec.ofNat 11 (p.period.toNat - d) }
  else if 2047 < p.period.toNat + d then { p with enabled := false }
  else { p with period := BitVec.ofNat 11 (p.period.toNat + d) }

/-- `sweep_clock()` (R503). -/
def Sound.sweepClock (s : Sound) : Sound :=
  if s.sweep.pace = 0 then s
  else if s.sweep.countdown - 1 = 0 then
    { s with
      sweep := { s.sweep with countdown := s.sweep.pace.toNat }
      ch1 := sweepPeriod s.sweep s.ch1 }
  else { s with sweep := { s.sweep with countdown := s.sweep.countdown - 1 } }

/-- `sequencer_tick()` (R500). -/
def Sound.sequencerTick (s : Sound) : Sound :=
  let old := s.seqCounter
  let new := (old + 1) % 8
  let rises (i : Nat) : Bool := !old.testBit i && new.testBit i
  let s := { s with seqCounter := new }
  let s := if rises 0 then s.lengthClock else s
  let s := if rises 1 then s.sweepClock else s
  if rises 2 then s.envelopeClock else s

/-! The step (R494, R507, R508, R520). -/

/-- `power_off_reset()` (R520); `wave_ram` is not part of this structure. -/
def Sound.powerOffReset (s : Sound) : Sound := { Sound.reset with seqPrevBit := s.seqPrevBit }

/-- One side of the mixer, over 960 (R507): `left` selects bits 4 to 7 of NR51 and bits 6:4 of NR50. -/
def Sound.side (p : Params) (ram : Memory) (s : Sound) (left : Bool) : Int :=
  let o := if left then 4 else 0
  let part (i : Nat) (x : Int) : Int := if bit s.nr51 (o + i) then x else 0
  (part 0 (s.ch1.analog p.dutyTable) + part 1 (s.ch2.analog p.dutyTable) +
      part 2 (s.ch3.analog ram) + part 3 s.ch4.analog) *
    (((s.nr50 >>> o).toNat % 8 + 1 : Nat) : Int)

/-- `mix()` as a pair of numerators over 960 (R507). -/
def Sound.mix (p : Params) (ram : Memory) (s : Sound) : Int × Int :=
  if s.power then (s.side p ram true, s.side p ram false) else (0, 0)

/-- The dividers of one half cycle (R494): channel 3 in both halves, the others in the first. -/
def Sound.half (s : Sound) (first : Bool) : Sound :=
  if s.power then
    let s := if s.ch3.enabled then { s with ch3 := s.ch3.clock } else s
    if first then
      let s := if s.ch1.enabled then { s with ch1 := s.ch1.clock } else s
      let s := if s.ch2.enabled then { s with ch2 := s.ch2.clock } else s
      if s.ch4.enabled then { s with ch4 := s.ch4.clock } else s
    else s
  else s

/-- The first three lines of `sound_step` (R494): power-off, sequencer, `seq_prev_bit`. -/
def Sound.sequence (s : Sound) (b : Bool) : Sound :=
  let s := if s.powerOffPending then s.powerOffReset else s
  let s := if s.power && s.seqPrevBit && !b then s.sequencerTick else s
  { s with seqPrevBit := b }

/-- `sound_step()` (R494). -/
def soundStep (s : State) : State :=
  let s0 := s.sound.sequence (s.timer.divCounter.getLsbD 12)
  let s1 := s0.half true
  let s2 := s1.half false
  { s with
    sound := s2
    audioOut := s2.mix s.params s.waveRam :: s1.mix s.params s.waveRam :: s.audioOut }

/-! Registers (R471 to R491). -/

/-- The registers 0xFF10 to 0xFF25 (R471 to R490). -/
inductive SoundReg where
  | nr10 | nr11 | nr12 | nr13 | nr14
  | nr21 | nr22 | nr23 | nr24
  | nr30 | nr31 | nr32 | nr33 | nr34
  | nr41 | nr42 | nr43 | nr44
  | nr50 | nr51
deriving DecidableEq, Repr

/-- The read rules R471 to R490, on a state whose power is on. -/
def Sound.readOn (s : Sound) : SoundReg → Byte
  | .nr10 =>
    0x80#8 ||| (s.sweep.pace.setWidth 8 <<< 4) ||| bitAt s.sweep.direction 3 ||| s.sweep.shift.setWidth 8
  | .nr11 => (s.ch1.duty.setWidth 8 <<< 6) ||| 0x3F
  | .nr12 => s.ch1.env.read
  | .nr13 => 0xFF
  | .nr14 => 0xBF#8 ||| bitAt s.ch1.lengthEnable 6
  | .nr21 => (s.ch2.duty.setWidth 8 <<< 6) ||| 0x3F
  | .nr22 => s.ch2.env.read
  | .nr23 => 0xFF
  | .nr24 => 0xBF#8 ||| bitAt s.ch2.lengthEnable 6
  | .nr30 => 0x7F#8 ||| bitAt s.ch3.dacOn 7
  | .nr31 => 0xFF
  | .nr32 => 0x9F#8 ||| (s.ch3.level.setWidth 8 <<< 5)
  | .nr33 => 0xFF
  | .nr34 => 0xBF#8 ||| bitAt s.ch3.lengthEnable 6
  | .nr41 => 0xFF
  | .nr42 => s.ch4.env.read
  | .nr43 => s.ch4.readFrequency
  | .nr44 => 0xBF#8 ||| bitAt s.ch4.lengthEnable 6
  | .nr50 => s.nr50
  | .nr51 => s.nr51

/-- A sound register as read: with the power off, as all-zero state reads (R493). -/
def Sound.readReg (s : Sound) (r : SoundReg) : Byte := (if s.power then s else Sound.reset).readOn r

/-- NR52 as read (R491, R493). -/
def Sound.readNr52 (s : Sound) : Byte :=
  if s.power then
    0xF0#8 ||| bitAt s.ch4.enabled 3 ||| bitAt s.ch3.enabled 2 ||| bitAt s.ch2.enabled 1 ||| bitAt s.ch1.enabled 0
  else 0x70

/-- NR52 write (R491). -/
def Sound.writeNr52 (s : Sound) (v : Byte) : Sound :=
  if s.power && !bit v 7 then { s with power := false, powerOffPending := true }
  else if !s.power && bit v 7 then { s with power := true }
  else s

/-- The write rules R471 to R490, with the power on. -/
def Sound.writeOn (s : Sound) (r : SoundReg) (v : Byte) : Sound :=
  match r with
  | .nr10 =>
    { s with sweep :=
      { s.sweep with pace := v.extractLsb' 4 3, direction := bit v 3, shift := v.extractLsb' 0 3 } }
  | .nr11 => { s with ch1 := s.ch1.writeLength v }
  | .nr12 => { s with ch1 := s.ch1.writeEnvelope v }
  | .nr13 => { s with ch1 := { s.ch1 with period := periodLow s.ch1.period v } }
  | .nr14 =>
    let p := s.ch1.writeControl v
    if bit v 7 then
      { s with ch1 := p.trigger, sweep := { s.sweep with countdown := s.sweep.pace.toNat } }
    else { s with ch1 := p }
  | .nr21 => { s with ch2 := s.ch2.writeLength v }
  | .nr22 => { s with ch2 := s.ch2.writeEnvelope v }
  | .nr23 => { s with ch2 := { s.ch2 with period := periodLow s.ch2.period v } }
  | .nr24 =>
    let p := s.ch2.writeControl v
    { s with ch2 := if bit v 7 then p.trigger else p }
  | .nr30 =>
    { s with ch3 :=
      { s.ch3 with dacOn := bit v 7, enabled := if bit v 7 then s.ch3.enabled else false } }
  | .nr31 => { s with ch3 := { s.ch3 with length := v.toNat } }
  | .nr32 => { s with ch3 := { s.ch3 with level := v.extractLsb' 5 2 } }
  | .nr33 => { s with ch3 := { s.ch3 with period := periodLow s.ch3.period v } }
  | .nr34 =>
    let w := s.ch3.writeControl v
    { s with ch3 := if bit v 7 then w.trigger else w }
  | .nr41 => { s with ch4 := { s.ch4 with length := v.toNat % 64 } }
  | .nr42 => { s with ch4 := s.ch4.writeEnvelope v }
  | .nr43 => { s with ch4 := s.ch4.writeFrequency v }
  | .nr44 =>
    let n := { s.ch4 with lengthEnable := bit v 6 }
    { s with ch4 := if bit v 7 then n.trigger else n }
  | .nr50 => { s with nr50 := v }
  | .nr51 => { s with nr51 := v }

/-- A write to 0xFF10-0xFF25: ignored with the power off (R493). -/
def Sound.writeReg (s : Sound) (r : SoundReg) (v : Byte) : Sound := if s.power then s.writeOn r v else s

end Sys2Proof.Machine
end

