-- ==== Sys2Proof/Machine/Timer.lean ====
section
/-! DEFINITION. The timer (spec/61_timer.md R380 to R390). -/

namespace Sys2Proof.Machine

/-- The bit of `div_counter` the frequency selector picks (R385). -/
def tacBit (tac : BitVec 3) : Nat :=
  if tac.extractLsb' 0 2 = 0 then 9
  else if tac.extractLsb' 0 2 = 1 then 3
  else if tac.extractLsb' 0 2 = 2 then 5
  else 7

/-- `tima_tick()` (R387). -/
def timaTick (s : State) : State :=
  if s.timer.tima = 0xFF then { s with timer := { s.timer with tima := s.timer.tma } }.request irqTimer
  else { s with timer := { s.timer with tima := s.timer.tima + 1 } }

/-- The timer step (R386). -/
def timerStep (s : State) : State :=
  let old := s.timer.divCounter
  let new := old + 4
  let b := tacBit s.timer.tac
  let s := { s with timer := { s.timer with divCounter := new } }
  if s.timer.tac.getLsbD 2 && old.getLsbD b && !new.getLsbD b then timaTick s else s

/-! Registers (R381 to R385). -/

/-- DIV (R381). -/
def Timer.readDiv (t : Timer) : Byte := hiByte t.divCounter
/-- DIV, any value (R382). -/
def Timer.writeDiv (t : Timer) : Timer := { t with divCounter := 0 }
/-- TAC (R385). -/
def Timer.readTac (t : Timer) : Byte := 0xF8#8 ||| t.tac.setWidth 8
/-- TAC (R385). -/
def Timer.writeTac (t : Timer) (v : Byte) : Timer := { t with tac := v.extractLsb' 0 3 }

end Sys2Proof.Machine
end

