-- ==== Sys2Proof/Machine/Video.lean ====
section
/-! DEFINITION. The video controller: registers, mode machine, line renderer (spec/63_video.md R415 to R452). -/

namespace Sys2Proof.Machine

/-! Registers. -/

/-- The mode code of STAT bits 1:0 (R416). -/
def VideoMode.code : VideoMode → Byte
  | .hBlank => 0
  | .vBlank => 1
  | .oamSearch => 2
  | .transfer => 3

/-- Whether the display is on, `lcdc[7]` (R415). -/
def Video.on (v : Video) : Bool := bit v.lcdc 7

/-- LCDC write: store, then R432 on a 1 to 0 change of bit 7 and R433 on a 0 to 1 change (R415). -/
def Video.writeLcdc (v : Video) (x : Byte) : Video :=
  let v' := { v with lcdc := x }
  if v.on && !bit x 7 then
    { v' with ly := 0, mode := .oamSearch, modeCycles := 0, windowLine := 0, statLinePrev := false }
  else if !v.on && bit x 7 then { v' with frameBlank := true }
  else v'

/-- STAT read (R416). -/
def Video.readStat (v : Video) : Byte :=
  0x80#8 ||| (v.statSel.setWidth 8 <<< 3) ||| bitAt (v.ly == v.lyc.toNat) 2 |||
    (if v.on then v.mode.code else 0)

/-- STAT write (R416). -/
def Video.writeStat (v : Video) (x : Byte) : Video := { v with statSel := x.extractLsb' 3 4 }

/-! The STAT line (R429, R430). -/

/-- `stat_line()` (R429). -/
def Video.statLine (v : Video) : Bool :=
  v.on && ((v.statSel.getLsbD 0 && v.mode == .hBlank) || (v.statSel.getLsbD 1 && v.mode == .vBlank) ||
    (v.statSel.getLsbD 2 && v.mode == .oamSearch) || (v.statSel.getLsbD 3 && v.ly == v.lyc.toNat))

/-- `stat_update()` (R430): a request only on a false to true edge. -/
def statUpdate (s : State) : State :=
  let line := s.video.statLine
  let s' := { s with video := { s.video with statLinePrev := line } }
  if line && !s.video.statLinePrev then s'.request irqStat else s'

/-! Data formats (R423, R424, R437, R441, R442). Offsets are inside one 8 KiB bank: bus address minus 0x8000. -/

/-- A byte of a video RAM bank, whatever `vbk` holds (R422). -/
def vramByte (s : State) (bank off : Nat) : Byte := Memory.read s.vram (bank * 8192 + off)

/-- The colour index two plane bytes give at a bit (R423). -/
def planeIndex (lo hi : Byte) (b : Nat) : Nat := carryIn (bit hi b) <<< 1 ||| carryIn (bit lo b)

/-- `addr(tile)` for background and window, as an offset in the bank (R441). -/
def bgTileOffset (lcdc tile : Byte) : Nat :=
  if bit lcdc 4 then 16 * tile.toNat else (0x1000 + 16 * signed8 tile).toNat

/-- A background or window pixel before the merge: colour index and the cell's attribute byte. -/
structure TilePixel where
  index : Nat
  attr : Byte
deriving DecidableEq, Repr

/-- The colour index inside a background or window tile (R442). -/
def bgTileIndex (s : State) (tile attr : Byte) (cx cy : Nat) : Nat :=
  let row := if bit attr 6 then 7 - cy else cy
  let a := bgTileOffset s.video.lcdc tile + 2 * row
  let bank := carryIn (bit attr 3)
  planeIndex (vramByte s bank a) (vramByte s bank (a + 1)) (if bit attr 5 then cx else 7 - cx)

/-- The pixel at `(x, y)` of a tile map (R439, R440, R443). -/
def mapPixel (s : State) (highMap : Bool) (x y : Nat) : TilePixel :=
  let cell := 32 * (y / 8) + x / 8
  let base := if highMap then 0x1C00 else 0x1800
  let tile := vramByte s 0 (base + cell)
  let attr := if s.bus.enhanced then vramByte s 1 (base + cell) else 0
  ⟨bgTileIndex s tile attr (x % 8) (y % 8), attr⟩

/-- Whether the window covers column `c` of line `line` (R440; the classic-mode condition is in
`backgroundPixel`). -/
def windowCovers (s : State) (line c : Nat) : Bool :=
  bit s.video.lcdc 5 && decide (s.video.wy.toNat ≤ line) && decide (s.video.wx.toNat ≤ c + 7)

/-- The background or window pixel (R439, R440). -/
def backgroundPixel (s : State) (line c : Nat) : TilePixel :=
  if !s.bus.enhanced && !bit s.video.lcdc 0 then ⟨0, 0⟩
  else if windowCovers s line c then
    mapPixel s (bit s.video.lcdc 6) (c + 7 - s.video.wx.toNat) s.video.windowLine
  else
    mapPixel s (bit s.video.lcdc 3) ((c + s.video.scx.toNat) % 256) ((line + s.video.scy.toNat) % 256)

/-! Sprites (R424, R435 to R438, R444). -/

/-- A sprite record (R424). -/
structure Sprite where
  y : Nat
  x : Nat
  tile : Byte
  attr : Byte
deriving DecidableEq, Repr

/-- Record `i` of sprite memory (R424). -/
def spriteRecord (s : State) (i : Nat) : Sprite :=
  ⟨(Memory.read s.oam (4 * i)).toNat, (Memory.read s.oam (4 * i + 1)).toNat,
    Memory.read s.oam (4 * i + 2), Memory.read s.oam (4 * i + 3)⟩

/-- 8 or 16 (R435). -/
def spriteHeight (lcdc : Byte) : Nat := if bit lcdc 2 then 16 else 8

/-- The sprites selected for a line: the first ten by vertical extent, in table order (R435). -/
def selectSprites (s : State) (line : Nat) : List Sprite :=
  (((List.range 40).map (spriteRecord s)).filter fun p =>
    decide (p.y ≤ line + 16) && decide (line + 16 < p.y + spriteHeight s.video.lcdc)).take 10

/-- `p` put after every sprite whose `x` is not greater. -/
def insertByX (p : Sprite) : List Sprite → List Sprite
  | [] => [p]
  | q :: rest => if p.x < q.x then p :: q :: rest else q :: insertByX p rest

/-- A stable sort by ascending `x` (R438). -/
def sortByX (ps : List Sprite) : List Sprite := ps.foldl (fun acc p => insertByX p acc) []

/-- The selected sprites in priority order (R438), or none when sprites are off (R444). -/
def lineSprites (s : State) (line : Nat) : List Sprite :=
  if !bit s.video.lcdc 1 then []
  else if s.bus.enhanced then selectSprites s line
  else sortByX (selectSprites s line)

/-- The colour index of a selected sprite at its column `sx` (R436, R437, R444). -/
def spriteIndex (s : State) (line : Nat) (p : Sprite) (sx : Nat) : Nat :=
  let h := spriteHeight s.video.lcdc
  let r0 := line + 16 - p.y
  let r := if bit p.attr 6 then h - 1 - r0 else r0
  let tile := if h = 16 then (p.tile &&& 0xFE) + (if 8 ≤ r then 1 else 0) else p.tile
  let a := 16 * tile.toNat + 2 * (r % 8)
  let bank := if s.bus.enhanced then carryIn (bit p.attr 3) else 0
  planeIndex (vramByte s bank a) (vramByte s bank (a + 1)) (if bit p.attr 5 then sx else 7 - sx)

/-- What one sprite shows at column `c`, if it covers it with a non-transparent index (R444). -/
def spriteShows (s : State) (line c : Nat) (p : Sprite) : Option TilePixel :=
  if p.x ≤ c + 8 ∧ c + 8 - p.x ≤ 7 then
    let i := spriteIndex s line p (c + 8 - p.x)
    if i = 0 then none else some ⟨i, p.attr⟩
  else none

/-- The highest-priority visible sprite pixel at column `c` (R444). -/
def spritePixel (s : State) (sprites : List Sprite) (line c : Nat) : Option TilePixel :=
  sprites.findSome? (spriteShows s line c)

/-! Merge and colour (R445 to R448). -/

/-- Whether the background wins over a sprite pixel (R445). -/
def backgroundWins (s : State) (bg sp : TilePixel) : Bool :=
  if s.bus.enhanced then bit s.video.lcdc 0 && bg.index != 0 && (bit bg.attr 7 || bit sp.attr 7)
  else bit sp.attr 7 && bg.index != 0

/-- A 16-bit colour word of a palette memory, low byte first (R446). -/
def paletteWord (m : Memory) (o : Nat) : Word := joinBytes (Memory.read m (o + 1)) (Memory.read m o)

/-- The pixel of a colour word (R446, R448). -/
def pixelOf (p : Params) (w : Word) : Pixel :=
  let channel (i : Nat) : Byte := p.rescale5.getD (w.extractLsb' i 5).toNat 0
  ⟨channel 0, channel 5, channel 10, 0xFF⟩

/-- The classic-mode shade of an index (R420, R447). -/
def shade (pal : Byte) (i : Nat) : Nat := (pal >>> (2 * i)).toNat % 4

/-- The colour of a background or window pixel (R446, R447). -/
def backgroundColour (s : State) (p : TilePixel) : Pixel :=
  let o := if s.bus.enhanced then 8 * (p.attr.toNat % 8) + 2 * p.index else 2 * shade s.video.bgp p.index
  pixelOf s.params (paletteWord s.bgPalette o)

/-- The colour of a sprite pixel (R446, R447). -/
def spriteColour (s : State) (p : TilePixel) : Pixel :=
  let o :=
    if s.bus.enhanced then 8 * (p.attr.toNat % 8) + 2 * p.index
    else
      let pal := if bit p.attr 4 then s.video.obp1 else s.video.obp0
      8 * carryIn (bit p.attr 4) + 2 * shade pal p.index
  pixelOf s.params (paletteWord s.objPalette o)

/-- The finished pixel at column `c` (R434). -/
def linePixel (s : State) (sprites : List Sprite) (line c : Nat) : Pixel :=
  let bg := backgroundPixel s line c
  match spritePixel s sprites line c with
  | none => backgroundColour s bg
  | some sp => if backgroundWins s bg sp then backgroundColour s bg else spriteColour s sp

/-- `window_line` after a line is rendered (R440). -/
def windowLineAfter (v : Video) (line : Nat) : Nat :=
  if bit v.lcdc 5 && decide (v.wy.toNat ≤ line) && decide (v.wx.toNat ≤ 166) then v.windowLine + 1
  else v.windowLine

/-- `render_line(L)` (R434): the row of the frame buffer and `window_line`, nothing else. -/
def renderLine (s : State) (line : Nat) : State :=
  let sprites := lineSprites s line
  let row := (List.range Config.screenWidth).map (linePixel s sprites line)
  { s with
    frameBuffer := s.frameBuffer.set line (some row)
    video := { s.video with windowLine := windowLineAfter s.video line } }

/-! The mode machine (R425). -/

/-- Entering the next line after an HBlank (R425, R428). -/
def afterHBlank (s : State) : State :=
  let line := s.video.ly + 1
  if line = Config.visibleLines then
    { s with video := { s.video with ly := line, modeCycles := 0, mode := .vBlank } }.request irqVBlank
  else { s with video := { s.video with ly := line, modeCycles := 0, mode := .oamSearch } }

/-- Entering the next line after a VBlank line (R425). -/
def afterVBlankLine (s : State) : State :=
  let line := s.video.ly + 1
  if line = Config.linesPerFrame then
    { s with video := { s.video with ly := 0, modeCycles := 0, windowLine := 0, mode := .oamSearch } }
  else { s with video := { s.video with ly := line, modeCycles := 0 } }

/-- One more cycle in the current mode, and the change of mode when its budget is spent (R425). -/
def modeAdvance (s : State) : State :=
  let n := s.video.modeCycles + 1
  let counted := { s with video := { s.video with modeCycles := n } }
  match s.video.mode with
  | .oamSearch =>
    if n = Config.oamSearchCycles then
      { s with video := { s.video with mode := .transfer, modeCycles := 0 } }
    else counted
  | .transfer =>
    if n = Config.transferCycles then
      let r := renderLine s s.video.ly
      { r with video := { r.video with mode := .hBlank, modeCycles := 0 } }
    else counted
  | .hBlank => if n = Config.hBlankCycles then afterHBlank s else counted
  | .vBlank => if n = Config.vBlankLineCycles then afterVBlankLine s else counted

/-- The video step (R425): nothing at all while the display is off (R432). -/
def videoStep (s : State) : State :=
  if s.video.on then statUpdate (modeAdvance s) else s

/-- The line of 160 white, opaque pixels (R433, R448). -/
def whiteLine : List Pixel := List.replicate Config.screenWidth ⟨0xFF, 0xFF, 0xFF, 0xFF⟩

/-- The frame buffer as bytes: the byte at an offset, if that line has been written (R448). -/
def frameByte (s : State) (off : Nat) : Option Byte :=
  match s.frameBuffer.getD (off / 640) none with
  | none => none
  | some row =>
    match row[off % 640 / 4]? with
    | none => none
    | some p => some (if off % 4 = 0 then p.r else if off % 4 = 1 then p.g else if off % 4 = 2 then p.b else p.alpha)

end Sys2Proof.Machine
end

