-- ==== Sys2Proof/Machine/Bus.lean ====
section
/-! DEFINITION. The bus: address map, register directory, `MemRead` and `MemWrite` (spec/20_memory.md R61 to R73,
spec/21_io_registers.md R110 to R126). -/

namespace Sys2Proof.Machine

/-! The register directory (R110). -/

/-- The memory-mapped registers; wave RAM is storage and is not one of them (R110, R492). -/
inductive IoReg where
  | p1 | sb | sc | div | tima | tma | tac | iflag
  | sound (r : SoundReg) | nr52
  | lcdc | stat | scy | scx | ly | lyc | dma | bgp | obp0 | obp1 | wy | wx
  | key0 | key1 | vbk | bank | hdma1 | hdma2 | hdma3 | hdma4 | hdma5
  | bcps | bcpd | ocps | ocpd | svbk | ie
deriving DecidableEq, Repr

/-- The registers of the page 0xFF00-0xFF7F by their offset in it, and `IE` at 0xFF (R110). -/
def ioDirectory : List (Nat × IoReg) :=
  [(0x00, .p1), (0x01, .sb), (0x02, .sc), (0x04, .div), (0x05, .tima), (0x06, .tma), (0x07, .tac), (0x0F, .iflag),
   (0x10, .sound .nr10), (0x11, .sound .nr11), (0x12, .sound .nr12), (0x13, .sound .nr13), (0x14, .sound .nr14),
   (0x16, .sound .nr21), (0x17, .sound .nr22), (0x18, .sound .nr23), (0x19, .sound .nr24),
   (0x1A, .sound .nr30), (0x1B, .sound .nr31), (0x1C, .sound .nr32), (0x1D, .sound .nr33), (0x1E, .sound .nr34),
   (0x20, .sound .nr41), (0x21, .sound .nr42), (0x22, .sound .nr43), (0x23, .sound .nr44),
   (0x24, .sound .nr50), (0x25, .sound .nr51), (0x26, .nr52)] ++
  [(0x40, .lcdc), (0x41, .stat), (0x42, .scy), (0x43, .scx), (0x44, .ly), (0x45, .lyc), (0x46, .dma),
   (0x47, .bgp), (0x48, .obp0), (0x49, .obp1), (0x4A, .wy), (0x4B, .wx), (0x4C, .key0), (0x4D, .key1),
   (0x4F, .vbk), (0x50, .bank), (0x51, .hdma1), (0x52, .hdma2), (0x53, .hdma3), (0x54, .hdma4), (0x55, .hdma5),
   (0x68, .bcps), (0x69, .bcpd), (0x6A, .ocps), (0x6B, .ocpd), (0x70, .svbk), (0xFF, .ie)]

/-- The register at an offset of the page 0xFF00-0xFFFF, if there is one. -/
def ioRegAt (off : Nat) : Option IoReg := ioDirectory.lookup off

/-! The address map (R61). -/

/-- What an address names at this moment. -/
inductive Location where
  /-- A byte of the overlaid boot image (R64). -/
  | bootRom (off : Nat)
  /-- A byte of the cartridge image (R64). -/
  | rom (off : Nat)
  /-- A byte of `vram` (R66). -/
  | vram (i : Nat)
  /-- A byte of `cart_ram` (R67). -/
  | cartRam (i : Nat)
  /-- A field of the clock (R67). -/
  | clock (f : RtcField)
  /-- The RAM window when nothing answers (R67). -/
  | openWindow
  /-- A byte of `wram` (R68, R69). -/
  | wram (i : Nat)
  /-- A byte of `oam` (R71). -/
  | oam (i : Nat)
  /-- The prohibited gap, by the address's low nibble (R72). -/
  | gap (nibble : Nat)
  /-- A byte of `wave_ram` (R492). -/
  | waveRam (i : Nat)
  /-- A byte of `hram` (R73). -/
  | hram (i : Nat)
  /-- A register (R73). -/
  | reg (r : IoReg)
  /-- An address of the register page without a register (R73). -/
  | noReg
deriving DecidableEq, Repr

/-- `BOOT_OVERLAY(addr)` (R10, R64). -/
def Boot.covers (b : Boot) (addr : Nat) : Bool := b.overlay.any fun r => decide (r.1 ≤ addr ∧ addr ≤ r.2)

/-- The video RAM bank the bus sees (R66, R402). -/
def vramBank (s : State) : Nat := if s.bus.enhanced then s.video.vbk.toNat else 0

/-- The effective work RAM bank, 1 to 7 (R69). -/
def wramBank (s : State) : Nat :=
  if s.bus.enhanced then (if s.bus.svbk = 0 then 1 else s.bus.svbk.toNat) else 1

/-- The RAM window 0xA000-0xBFFF (R67). -/
def locateWindow (c : Cart) (off : Nat) : Location :=
  match cartWindow c off with
  | .ram i => .cartRam i
  | .clock f => .clock f
  | .nothing => .openWindow

/-- The page 0xFF00-0xFFFF by offset (R73). -/
def locatePage (off : Nat) : Location :=
  match ioRegAt off with
  | some r => .reg r
  | none =>
    if 0x80 ≤ off then .hram (off - 0x80)
    else if 0x30 ≤ off ∧ off ≤ 0x3F then .waveRam (off - 0x30)
    else .noReg

/-- The first matching row of R61. -/
def locate (s : State) (addr : Word) : Location :=
  let n := addr.toNat
  if n < 0x8000 then
    if s.boot.mapped && s.boot.covers n then .bootRom n else .rom (romOffset s.cart n)
  else if n < 0xA000 then .vram (vramBank s * 8192 + (n - 0x8000))
  else if n < 0xC000 then locateWindow s.cart (n - 0xA000)
  else if n < 0xD000 then .wram (n - 0xC000)
  else if n < 0xE000 then .wram (wramBank s * 4096 + (n - 0xD000))
  else if n < 0xF000 then .wram (n - 0xE000)
  else if n < 0xFE00 then .wram (wramBank s * 4096 + (n - 0xF000))
  else if n < 0xFEA0 then .oam (n - 0xFE00)
  else if n < 0xFF00 then .gap (n % 16)
  else locatePage (n - 0xFF00)

/-! Reads. No read changes state (R79). -/

/-- The read value of a register (R110). -/
def ioRead (s : State) : IoReg → Byte
  | .p1 => s.joypad.read
  | .sb => s.bus.sb
  | .sc => s.bus.sc ||| 0x7C
  | .div => s.timer.readDiv
  | .tima => s.timer.tima
  | .tma => s.timer.tma
  | .tac => s.timer.readTac
  | .iflag => s.irq.flags
  | .sound r => s.sound.readReg r
  | .nr52 => s.sound.readNr52
  | .lcdc => s.video.lcdc
  | .stat => s.video.readStat
  | .scy => s.video.scy
  | .scx => s.video.scx
  | .ly => BitVec.ofNat 8 s.video.ly
  | .lyc => s.video.lyc
  | .dma => s.dma.oamDmaReg
  | .bgp => s.video.bgp
  | .obp0 => s.video.obp0
  | .obp1 => s.video.obp1
  | .wy => s.video.wy
  | .wx => s.video.wx
  | .key0 => 0xFF
  | .key1 => 0x7E#8 ||| bitAt s.cpu.doubleSpeed 7 ||| bitAt s.cpu.speedArmed 0
  | .vbk => 0xFE#8 ||| s.video.vbk.setWidth 8
  | .bank => 0xFF
  | .hdma1 => 0xFF
  | .hdma2 => 0xFF
  | .hdma3 => 0xFF
  | .hdma4 => 0xFF
  | .hdma5 => 0xFF
  | .bcps => s.video.bcps ||| 0x40
  | .bcpd => Memory.read s.bgPalette (s.video.bcps.toNat % 64)
  | .ocps => s.video.ocps ||| 0x40
  | .ocpd => Memory.read s.objPalette (s.video.ocps.toNat % 64)
  | .svbk => 0xF8#8 ||| s.bus.svbk.setWidth 8
  | .ie => s.irq.ie

/-- What a location reads as (R64 to R73). An overlaid address at or beyond the end of `BOOT_ROM`, of which R64 says
nothing, reads 0x00: DESIGN CHOICE (notes/assumptions/24.md). -/
def Location.read (s : State) : Location → Byte
  | .bootRom i => Memory.read s.boot.image i
  | .rom i => Memory.read s.cart.rom i
  | .vram i => Memory.read s.vram i
  | .cartRam i => Memory.read s.cart.ram i
  | .clock f => s.cart.rtc.readField f
  | .openWindow => 0xFF
  | .wram i => Memory.read s.wram i
  | .oam i => Memory.read s.oam i
  | .gap n => s.params.prohibitedRead.getD n 0
  | .waveRam i => Memory.read s.waveRam i
  | .hram i => Memory.read s.hram i
  | .reg r => ioRead s r
  | .noReg => 0xFF

/-- `MemRead(addr, 1)` (R62): total, and it changes nothing. -/
def memRead (s : State) (addr : Word) : Byte := (locate s addr).read s

/-! Writes. -/

/-- `bcps` and `ocps` after a data write (R123, R125). -/
def paletteIndexNext (p : Byte) : Byte :=
  if bit p 7 then (p &&& 0xC0) ||| ((p + 1) &&& 0x3F) else p

/-- The write effect of a register (R110). -/
def ioWrite (s : State) (r : IoReg) (v : Byte) : State :=
  match r with
  | .p1 => { s with joypad := s.joypad.write v }
  | .sb => { s with bus := { s.bus with sb := v } }
  | .sc => { s with bus := { s.bus with sc := v } }
  | .div => { s with timer := s.timer.writeDiv }
  | .tima => { s with timer := { s.timer with tima := v } }
  | .tma => { s with timer := { s.timer with tma := v } }
  | .tac => { s with timer := s.timer.writeTac v }
  | .iflag => { s with irq := { s.irq with flags := v } }
  | .sound r => { s with sound := s.sound.writeReg r v }
  | .nr52 => { s with sound := s.sound.writeNr52 v }
  | .lcdc => { s with video := s.video.writeLcdc v }
  | .stat => { s with video := s.video.writeStat v }
  | .scy => { s with video := { s.video with scy := v } }
  | .scx => { s with video := { s.video with scx := v } }
  | .ly => s
  | .lyc => { s with video := { s.video with lyc := v } }
  | .dma => { s with dma := s.dma.startObjectMemory v }
  | .bgp => { s with video := { s.video with bgp := v } }
  | .obp0 => { s with video := { s.video with obp0 := v } }
  | .obp1 => { s with video := { s.video with obp1 := v } }
  | .wy => { s with video := { s.video with wy := v } }
  | .wx => { s with video := { s.video with wx := v } }
  | .key0 => if s.boot.mapped then { s with bus := { s.bus with enhanced := !bit v 2 } } else s
  | .key1 => { s with cpu := { s.cpu with speedArmed := bit v 0 } }
  | .vbk => { s with video := { s.video with vbk := v.extractLsb' 0 1 } }
  | .bank => { s with boot := { s.boot with mapped := false } }
  | .hdma1 => { s with dma := s.dma.writeSrcHigh v }
  | .hdma2 => { s with dma := s.dma.writeSrcLow v }
  | .hdma3 => { s with dma := s.dma.writeDstHigh v }
  | .hdma4 => { s with dma := s.dma.writeDstLow v }
  | .hdma5 => { s with dma := s.dma.startGeneral v }
  | .bcps => { s with video := { s.video with bcps := v &&& 0xBF } }
  | .bcpd =>
    { s with
      bgPalette := s.bgPalette.write (s.video.bcps.toNat % 64) v
      video := { s.video with bcps := paletteIndexNext s.video.bcps } }
  | .ocps => { s with video := { s.video with ocps := v &&& 0xBF } }
  | .ocpd =>
    { s with
      objPalette := s.objPalette.write (s.video.ocps.toNat % 64) v
      video := { s.video with ocps := paletteIndexNext s.video.ocps } }
  | .svbk => { s with bus := { s.bus with svbk := v.extractLsb' 0 3 } }
  | .ie => { s with irq := { s.irq with ie := v } }

/-- The write effect of a location (R65 to R73). A write to 0x0000-0x7FFF is a bank-select write whether or not
the boot image is mapped there (R65); `addr` is the address written. -/
def Location.write (s : State) (addr : Word) (v : Byte) : Location → State
  | .bootRom _ => { s with cart := s.cart.bankWrite s.now addr.toNat v }
  | .rom _ => { s with cart := s.cart.bankWrite s.now addr.toNat v }
  | .vram i => { s with vram := s.vram.write i v }
  | .cartRam i => { s with cart := { s.cart with ram := s.cart.ram.write i v } }
  | .clock f => { s with cart := { s.cart with rtc := s.cart.rtc.writeField s.now f v } }
  | .openWindow => s
  | .wram i => { s with wram := s.wram.write i v }
  | .oam i => { s with oam := s.oam.write i v }
  | .gap _ => s
  | .waveRam i => { s with waveRam := s.waveRam.write i v }
  | .hram i => { s with hram := s.hram.write i v }
  | .reg r => ioWrite s r v
  | .noReg => s

/-- `MemWrite(addr, 1, v)` (R63): total; what cannot be written is left alone. -/
def memWrite (s : State) (addr : Word) (v : Byte) : State := (locate s addr).write s addr v

/-! Placing a byte behind an address from outside the machine (notes/assumptions/4.md). -/

/-- The state with the storage cell that `addr` reads set to `v`; a register or an unreadable address is left. -/
def placeByte (s : State) (addr : Word) (v : Byte) : State :=
  match locate s addr with
  | .bootRom i => { s with boot := { s.boot with image := s.boot.image.write i v } }
  | .rom i => { s with cart := { s.cart with rom := s.cart.rom.write i v } }
  | .vram i => { s with vram := s.vram.write i v }
  | .cartRam i => { s with cart := { s.cart with ram := s.cart.ram.write i v } }
  | .wram i => { s with wram := s.wram.write i v }
  | .oam i => { s with oam := s.oam.write i v }
  | .waveRam i => { s with waveRam := s.waveRam.write i v }
  | .hram i => { s with hram := s.hram.write i v }
  | .clock _ | .openWindow | .gap _ | .reg _ | .noReg => s

end Sys2Proof.Machine
end

