-- ==== Sys2Proof/Machine/Flags.lean ====
section
/-! DEFINITION. Every flag computation of the instruction set (spec/42_alu8.md R215, R216, R245; spec/43_alu16.md
R261, R265; spec/44_rotate_shift_bit.md R270; spec/10_state.md R23, R24). -/

namespace Sys2Proof.Machine

/-! `F` as a byte (R23, R24). -/

/-- `F` read whole: bits 3:0 are 0. -/
def Flags.toByte (f : Flags) : Byte := bitAt f.z 7 ||| bitAt f.n 6 ||| bitAt f.h 5 ||| bitAt f.c 4

/-- `F` written whole: bits 3:0 of the value are dropped. -/
def Flags.ofByte (v : Byte) : Flags := ⟨bit v 7, bit v 6, bit v 5, bit v 4⟩

/-! 8-bit add and subtract (R216), in `Nat` and `Int`, narrowed at the end. -/

/-- What `add8` and `sub8` return: the result byte and the three flags. -/
structure Sum8 where
  value : Byte
  z : Bool
  h : Bool
  c : Bool
deriving DecidableEq, Repr

/-- `add8(a, b, cin)` (R216). -/
def add8 (a b : Byte) (cin : Bool) : Sum8 :=
  let s := a.toNat + b.toNat + carryIn cin
  let r := BitVec.ofNat 8 s
  ⟨r, decide (r = 0), decide (0x0F < a.toNat % 16 + b.toNat % 16 + carryIn cin), decide (0xFF < s)⟩

/-- `sub8(a, b, cin)` (R216). -/
def sub8 (a b : Byte) (cin : Bool) : Sum8 :=
  let r := BitVec.ofInt 8 ((a.toNat : Int) - b.toNat - carryIn cin)
  ⟨r, decide (r = 0), decide (a.toNat % 16 < b.toNat % 16 + carryIn cin), decide (a.toNat < b.toNat + carryIn cin)⟩

/-- `A` and the flags after an 8-bit ALU operation on `a` and `b` with the flags `f` before it (R217 to R240).
`CP` answers `a` itself: its difference is discarded (R238). -/
def alu (op : AluOp) (a b : Byte) (f : Flags) : Byte × Flags :=
  match op with
  | .add => let r := add8 a b false; (r.value, ⟨r.z, false, r.h, r.c⟩)
  | .adc => let r := add8 a b f.c; (r.value, ⟨r.z, false, r.h, r.c⟩)
  | .sub => let r := sub8 a b false; (r.value, ⟨r.z, true, r.h, r.c⟩)
  | .sbc => let r := sub8 a b f.c; (r.value, ⟨r.z, true, r.h, r.c⟩)
  | .and => (a &&& b, ⟨decide (a &&& b = 0), false, true, false⟩)
  | .xor => (a ^^^ b, ⟨decide (a ^^^ b = 0), false, false, false⟩)
  | .or => (a ||| b, ⟨decide (a ||| b = 0), false, false, false⟩)
  | .cp => let r := sub8 a b false; (a, ⟨r.z, true, r.h, r.c⟩)

/-- The byte and the flags after an 8-bit increment (R241); `C` is kept. -/
def inc8 (v : Byte) (f : Flags) : Byte × Flags :=
  (v + 1, ⟨decide (v + 1 = 0), false, decide (v &&& 0x0F = 0x0F), f.c⟩)

/-- The byte and the flags after an 8-bit decrement (R243); `C` is kept. -/
def dec8 (v : Byte) (f : Flags) : Byte × Flags :=
  (v - 1, ⟨decide (v - 1 = 0), true, decide (v &&& 0x0F = 0), f.c⟩)

/-- `A` and the flags after `DAA` (R245). -/
def daa (a : Byte) (f : Flags) : Byte × Flags :=
  if f.n then
    let r := (if f.c then a - 0x60 else a) - (if f.h then 0x06 else 0)
    (r, ⟨decide (r = 0), f.n, false, f.c⟩)
  else
    let high := f.c || decide (0x99 < a.toNat)
    let low := f.h || decide (0x09 < a.toNat % 16)
    let r := (if high then a + 0x60 else a) + (if low then 0x06 else 0)
    (r, ⟨decide (r = 0), f.n, false, high⟩)

/-! 16-bit add. -/

/-- `HL` and the flags after `ADD HL,rr` (R261); `Z` is kept. -/
def addHL (a b : Word) (f : Flags) : Word × Flags :=
  (BitVec.ofNat 16 (a.toNat + b.toNat),
    ⟨f.z, false, decide (0x0FFF < a.toNat % 4096 + b.toNat % 4096), decide (0xFFFF < a.toNat + b.toNat)⟩)

/-- `sp_plus_e(s, e)` (R265) with the flags it gives (R204, R264): the sum takes `e` as signed, the flags take it
as a raw byte. -/
def spPlusE (s : Word) (e : Byte) : Word × Flags :=
  (s + sext16 e,
    ⟨false, false, decide (0x0F < s.toNat % 16 + e.toNat % 16), decide (0xFF < s.toNat % 256 + e.toNat)⟩)

/-! Rotates, shifts, swap (R270). -/

/-- The result byte and the carry-out of a one-bit operation (R270). -/
def rot (op : RotOp) (v : Byte) (cin : Bool) : Byte × Bool :=
  match op with
  | .rlc => ((v <<< 1) ||| bitAt (bit v 7) 0, bit v 7)
  | .rrc => ((v >>> 1) ||| bitAt (bit v 0) 7, bit v 0)
  | .rl => ((v <<< 1) ||| bitAt cin 0, bit v 7)
  | .rr => ((v >>> 1) ||| bitAt cin 7, bit v 0)
  | .sla => (v <<< 1, bit v 7)
  | .sra => ((v >>> 1) ||| (v &&& 0x80), bit v 0)
  | .swap => ((v <<< 4) ||| (v >>> 4), false)
  | .srl => (v >>> 1, bit v 0)

/-- The flags of an extended-table form (R270). -/
def rotFlags (r : Byte × Bool) : Flags := ⟨decide (r.1 = 0), false, false, r.2⟩

/-- The flags of an accumulator form (R270, R271): `Z` is forced to 0. -/
def rotAFlags (r : Byte × Bool) : Flags := ⟨false, false, false, r.2⟩

/-- The flags of `BIT b,x` (R291); `C` is kept. -/
def bitFlags (v : Byte) (b : Nat) (f : Flags) : Flags := ⟨!bit v b, false, true, f.c⟩

end Sys2Proof.Machine
end

