-- ==== Sys2Proof/Machine/Operands.lean ====
section
/-! DEFINITION. Every register operand form and the conditions (spec/10_state.md R20 to R25,
spec/30_encoding.md R144 to R147), and the high-page address (spec/40_load8.md R182). -/

namespace Sys2Proof.Machine

/-- `x[r]` (R144). -/
def State.reg (s : State) : Reg8 → Byte
  | .b => s.cpu.b
  | .c => s.cpu.c
  | .d => s.cpu.d
  | .e => s.cpu.e
  | .h => s.cpu.h
  | .l => s.cpu.l
  | .a => s.cpu.a

/-- `x[r] <- v` (R144). -/
def State.setReg (s : State) (r : Reg8) (v : Byte) : State :=
  match r with
  | .b => { s with cpu := { s.cpu with b := v } }
  | .c => { s with cpu := { s.cpu with c := v } }
  | .d => { s with cpu := { s.cpu with d := v } }
  | .e => { s with cpu := { s.cpu with e := v } }
  | .h => { s with cpu := { s.cpu with h := v } }
  | .l => { s with cpu := { s.cpu with l := v } }
  | .a => { s with cpu := { s.cpu with a := v } }

/-- The flags, all four at once. -/
def State.setFlags (s : State) (f : Flags) : State := { s with cpu := { s.cpu with f := f } }

/-- `pc <- a`. -/
def State.setPc (s : State) (a : Word) : State := { s with cpu := { s.cpu with pc := a } }

/-- `sp <- a`. -/
def State.setSp (s : State) (a : Word) : State := { s with cpu := { s.cpu with sp := a } }

/-- `xx[rr]`, or `sp` for the value 3 (R21, R145). -/
def State.pair (s : State) : Pair → Word
  | .bc => joinBytes s.cpu.b s.cpu.c
  | .de => joinBytes s.cpu.d s.cpu.e
  | .hl => joinBytes s.cpu.h s.cpu.l
  | .sp => s.cpu.sp

/-- `xx[rr] <- v`, or `sp <- v` for the value 3 (R21, R145). -/
def State.setPair (s : State) (p : Pair) (v : Word) : State :=
  match p with
  | .bc => { s with cpu := { s.cpu with b := hiByte v, c := loByte v } }
  | .de => { s with cpu := { s.cpu with d := hiByte v, e := loByte v } }
  | .hl => { s with cpu := { s.cpu with h := hiByte v, l := loByte v } }
  | .sp => s.setSp v

/-- `xx[HL]`, the address of every `(HL)` form (R21). -/
def State.hl (s : State) : Word := s.pair .hl

/-- `xx[rr2]` (R146); `F` reads with bits 3:0 zero (R23). -/
def State.stackPair (s : State) : StackPair → Word
  | .bc => s.pair .bc
  | .de => s.pair .de
  | .hl => s.pair .hl
  | .af => joinBytes s.cpu.a s.cpu.f.toByte

/-- `xx[rr2] <- v` (R146, R207); bits 3:0 of `F` are dropped (R23). -/
def State.setStackPair (s : State) (p : StackPair) (v : Word) : State :=
  match p with
  | .bc => s.setPair .bc v
  | .de => s.setPair .de v
  | .hl => s.setPair .hl v
  | .af => { s with cpu := { s.cpu with a := hiByte v, f := Flags.ofByte (loByte v) } }

/-- `cond(cc)` (R147). -/
def State.cond (s : State) : Cond → Bool
  | .nz => !s.cpu.f.z
  | .z => s.cpu.f.z
  | .nc => !s.cpu.f.c
  | .c => s.cpu.f.c

/-- `0xFF00 | zext_16(offset)` (R182). -/
def highPage (off : Byte) : Word := 0xFF00#16 ||| zext16 off

end Sys2Proof.Machine
end

