-- ==== Sys2Proof/Machine/Ops.lean ====
section
/-! DEFINITION. The operations the meanings share: the end of an instruction, fetching a byte, the stack, raising a
fatal condition, taking an interrupt and returning from one (spec/00_scope.md R15 to R17, spec/60_exceptions.md R341,
R343, R352, R355). -/

namespace Sys2Proof.Machine

/-- `cost n`: the instruction ends, `cyc <- n - 1` (R31, R343 step 6). -/
def finish (n : Nat) (s : State) : Out := .next { s with cpu := { s.cpu with cyc := n - 1 } }

/-- `imm8()`: the byte at `pc`, and `pc` advanced (R15). -/
def imm8 (s : State) : Byte × State := (memRead s s.cpu.pc, s.setPc (s.cpu.pc + 1))

/-- `push16(v)`: the high byte at `sp - 1`, then the low byte at `sp - 2` (R16, R70). -/
def push16 (s : State) (v : Word) : State :=
  let s := s.setSp (s.cpu.sp - 1)
  let s := memWrite s s.cpu.sp (hiByte v)
  let s := s.setSp (s.cpu.sp - 1)
  memWrite s s.cpu.sp (loByte v)

/-- `pop16()`: the low byte at `sp`, the high byte at `sp + 1`, and `sp` up by two (R16, R70). Reads change nothing
(R79). -/
def pop16 (s : State) : Word × State :=
  (joinBytes (memRead s (s.cpu.sp + 1)) (memRead s s.cpu.sp), s.setSp (s.cpu.sp + 2))

/-- `raise Fatal(reason)` (R17, R341): the reason is recorded and the instruction ends there, so nothing else
changes, `cyc` included. `machineCycle` abandons the cycle. -/
def raiseFatal (r : FatalReason) (s : State) : Out := .next { s with cpu := { s.cpu with fatal := some r } }

/-- The handler address of interrupt `k`, `0x0040 + 8 * k` (R74, R352). -/
def handlerAddress (k : Nat) : Word := BitVec.ofNat 16 (0x40 + 8 * k)

/-- `service_interrupt()` for the interrupt `k` that `pop()` gave (R352), `IF[k]` already cleared. -/
def enterHandler (s : State) (k : Nat) : State :=
  let s := { s with cpu := { s.cpu with ime := false, imeDelay := 0 } }
  let s := push16 s s.cpu.pc
  { s with cpu := { s.cpu with pc := handlerAddress k, cyc := Config.interruptServiceCycles - 1 } }

/-- `service_interrupt()` (R352). With nothing pending `pop()` gives nothing and nothing happens. -/
def serviceInterrupt (s : State) : State :=
  match s.irq.pop with
  | (some k, q) => enterHandler { s with irq := q } k
  | (none, _) => s

/-- Return from a handler, all of `RETI` but its cost (R310, R355). -/
def returnFromHandler (s : State) : State :=
  let p := pop16 s
  { p.2 with cpu := { p.2.cpu with pc := p.1, ime := true, imeDelay := 0 } }

/-- `push16(pc); pc <- a`: a call (R306, R311). -/
def callTo (a : Word) (s : State) : State := (push16 s s.cpu.pc).setPc a

/-- `pc <- pop16()`: a return (R308). -/
def returnTo (s : State) : State :=
  let p := pop16 s
  p.2.setPc p.1

end Sys2Proof.Machine
end

