-- ==== Sys2Proof/Machine/Alu16.lean ====
section
/-! DEFINITION. 16-bit arithmetic (spec/43_alu16.md R261 to R265). Every meaning starts with `pc` past the whole instruction. -/

namespace Sys2Proof.Machine

/-- `ADD HL,rr` (R261). -/
def addToHL (p : Pair) (s : State) : Out :=
  let r := addHL s.hl (s.pair p) s.cpu.f
  finish 2 ((s.setPair .hl r.1).setFlags r.2)

/-- `INC rr` and `DEC rr` (R262, R263): no flag changes. -/
def movePair (p : Pair) (d : Word) (s : State) : Out := finish 2 (s.setPair p (s.pair p + d))

/-- `ADD SP,e8` (R264). -/
def addToSp (e : Byte) (s : State) : Out :=
  let r := spPlusE s.cpu.sp e
  finish 4 ((s.setSp r.1).setFlags r.2)

/-- `INC BC` (R262). -/
def execInc_BC (s : State) : Out := movePair .bc 1 s
/-- `ADD HL,BC` (R261). -/
def execAdd_HL_BC (s : State) : Out := addToHL .bc s
/-- `DEC BC` (R263). -/
def execDec_BC (s : State) : Out := movePair .bc (-1) s
/-- `INC DE` (R262). -/
def execInc_DE (s : State) : Out := movePair .de 1 s
/-- `ADD HL,DE` (R261). -/
def execAdd_HL_DE (s : State) : Out := addToHL .de s
/-- `DEC DE` (R263). -/
def execDec_DE (s : State) : Out := movePair .de (-1) s
/-- `INC HL` (R262). -/
def execInc_HL (s : State) : Out := movePair .hl 1 s
/-- `ADD HL,HL` (R261). -/
def execAdd_HL_HL (s : State) : Out := addToHL .hl s
/-- `DEC HL` (R263). -/
def execDec_HL (s : State) : Out := movePair .hl (-1) s
/-- `INC SP` (R262). -/
def execInc_SP (s : State) : Out := movePair .sp 1 s
/-- `ADD HL,SP` (R261). -/
def execAdd_HL_SP (s : State) : Out := addToHL .sp s
/-- `DEC SP` (R263). -/
def execDec_SP (s : State) : Out := movePair .sp (-1) s
/-- `ADD SP,e8` (R264). -/
def execAdd_SP_e8 (e8 : Byte) (s : State) : Out := addToSp e8 s

end Sys2Proof.Machine
end

