-- ==== Sys2Proof/Machine/Alu8.lean ====
section
/-! DEFINITION. 8-bit arithmetic and logic (spec/42_alu8.md R217 to R248). Every meaning starts with `pc` past the whole instruction. -/

namespace Sys2Proof.Machine

/-- `A` and the flags take the result, of cost `n`. -/
def aluResult (r : Byte × Flags) (n : Nat) (s : State) : Out := finish n ((s.setReg .a r.1).setFlags r.2)

/-- An ALU operation on `A` and `b`, of cost `n` (R217 to R240). -/
def aluWith (op : AluOp) (b : Byte) (n : Nat) (s : State) : Out := aluResult (alu op s.cpu.a b s.cpu.f) n s

/-- `INC r` and `DEC r` (R241, R243); `f` is `inc8` or `dec8`. -/
def stepReg (f : Byte → Flags → Byte × Flags) (r : Reg8) (s : State) : Out :=
  let x := f (s.reg r) s.cpu.f
  finish 1 ((s.setReg r x.1).setFlags x.2)

/-- `INC (HL)` and `DEC (HL)` (R242, R244): one read, one write of the same address. -/
def stepAtHL (f : Byte → Flags → Byte × Flags) (s : State) : Out :=
  let x := f (memRead s s.hl) s.cpu.f
  finish 3 ((memWrite s s.hl x.1).setFlags x.2)

/-- `INC B` (R241). -/
def execInc_B (s : State) : Out := stepReg inc8 .b s
/-- `DEC B` (R243). -/
def execDec_B (s : State) : Out := stepReg dec8 .b s
/-- `INC C` (R241). -/
def execInc_C (s : State) : Out := stepReg inc8 .c s
/-- `DEC C` (R243). -/
def execDec_C (s : State) : Out := stepReg dec8 .c s
/-- `INC D` (R241). -/
def execInc_D (s : State) : Out := stepReg inc8 .d s
/-- `DEC D` (R243). -/
def execDec_D (s : State) : Out := stepReg dec8 .d s
/-- `INC E` (R241). -/
def execInc_E (s : State) : Out := stepReg inc8 .e s
/-- `DEC E` (R243). -/
def execDec_E (s : State) : Out := stepReg dec8 .e s
/-- `INC H` (R241). -/
def execInc_H (s : State) : Out := stepReg inc8 .h s
/-- `DEC H` (R243). -/
def execDec_H (s : State) : Out := stepReg dec8 .h s
/-- `DAA` (R245). -/
def execDaa (s : State) : Out := aluResult (daa s.cpu.a s.cpu.f) 1 s
/-- `INC L` (R241). -/
def execInc_L (s : State) : Out := stepReg inc8 .l s
/-- `DEC L` (R243). -/
def execDec_L (s : State) : Out := stepReg dec8 .l s
/-- `CPL` (R246). -/
def execCpl (s : State) : Out := aluResult (~~~s.cpu.a, { s.cpu.f with n := true, h := true }) 1 s
/-- `INC (HL)` (R242). -/
def execInc_atHL (s : State) : Out := stepAtHL inc8 s
/-- `DEC (HL)` (R244). -/
def execDec_atHL (s : State) : Out := stepAtHL dec8 s
/-- `SCF` (R247). -/
def execScf (s : State) : Out := aluResult (s.cpu.a, { s.cpu.f with n := false, h := false, c := true }) 1 s
/-- `INC A` (R241). -/
def execInc_A (s : State) : Out := stepReg inc8 .a s
/-- `DEC A` (R243). -/
def execDec_A (s : State) : Out := stepReg dec8 .a s
/-- `CCF` (R248). -/
def execCcf (s : State) : Out := aluResult (s.cpu.a, { s.cpu.f with n := false, h := false, c := !s.cpu.f.c }) 1 s
/-- `ADD A,B` (R217). -/
def execAdd_A_B (s : State) : Out := aluWith .add (s.reg .b) 1 s
/-- `ADD A,C` (R217). -/
def execAdd_A_C (s : State) : Out := aluWith .add (s.reg .c) 1 s
/-- `ADD A,D` (R217). -/
def execAdd_A_D (s : State) : Out := aluWith .add (s.reg .d) 1 s
/-- `ADD A,E` (R217). -/
def execAdd_A_E (s : State) : Out := aluWith .add (s.reg .e) 1 s
/-- `ADD A,H` (R217). -/
def execAdd_A_H (s : State) : Out := aluWith .add (s.reg .h) 1 s
/-- `ADD A,L` (R217). -/
def execAdd_A_L (s : State) : Out := aluWith .add (s.reg .l) 1 s
/-- `ADD A,(HL)` (R218). -/
def execAdd_A_atHL (s : State) : Out := aluWith .add (memRead s s.hl) 2 s
/-- `ADD A,A` (R217). -/
def execAdd_A_A (s : State) : Out := aluWith .add (s.reg .a) 1 s
/-- `ADC A,B` (R220). -/
def execAdc_A_B (s : State) : Out := aluWith .adc (s.reg .b) 1 s
/-- `ADC A,C` (R220). -/
def execAdc_A_C (s : State) : Out := aluWith .adc (s.reg .c) 1 s
/-- `ADC A,D` (R220). -/
def execAdc_A_D (s : State) : Out := aluWith .adc (s.reg .d) 1 s
/-- `ADC A,E` (R220). -/
def execAdc_A_E (s : State) : Out := aluWith .adc (s.reg .e) 1 s
/-- `ADC A,H` (R220). -/
def execAdc_A_H (s : State) : Out := aluWith .adc (s.reg .h) 1 s
/-- `ADC A,L` (R220). -/
def execAdc_A_L (s : State) : Out := aluWith .adc (s.reg .l) 1 s
/-- `ADC A,(HL)` (R221). -/
def execAdc_A_atHL (s : State) : Out := aluWith .adc (memRead s s.hl) 2 s
/-- `ADC A,A` (R220). -/
def execAdc_A_A (s : State) : Out := aluWith .adc (s.reg .a) 1 s
/-- `SUB B` (R223). -/
def execSub_B (s : State) : Out := aluWith .sub (s.reg .b) 1 s
/-- `SUB C` (R223). -/
def execSub_C (s : State) : Out := aluWith .sub (s.reg .c) 1 s
/-- `SUB D` (R223). -/
def execSub_D (s : State) : Out := aluWith .sub (s.reg .d) 1 s
/-- `SUB E` (R223). -/
def execSub_E (s : State) : Out := aluWith .sub (s.reg .e) 1 s
/-- `SUB H` (R223). -/
def execSub_H (s : State) : Out := aluWith .sub (s.reg .h) 1 s
/-- `SUB L` (R223). -/
def execSub_L (s : State) : Out := aluWith .sub (s.reg .l) 1 s
/-- `SUB (HL)` (R224). -/
def execSub_atHL (s : State) : Out := aluWith .sub (memRead s s.hl) 2 s
/-- `SUB A` (R223). -/
def execSub_A (s : State) : Out := aluWith .sub (s.reg .a) 1 s
/-- `SBC A,B` (R226). -/
def execSbc_A_B (s : State) : Out := aluWith .sbc (s.reg .b) 1 s
/-- `SBC A,C` (R226). -/
def execSbc_A_C (s : State) : Out := aluWith .sbc (s.reg .c) 1 s
/-- `SBC A,D` (R226). -/
def execSbc_A_D (s : State) : Out := aluWith .sbc (s.reg .d) 1 s
/-- `SBC A,E` (R226). -/
def execSbc_A_E (s : State) : Out := aluWith .sbc (s.reg .e) 1 s
/-- `SBC A,H` (R226). -/
def execSbc_A_H (s : State) : Out := aluWith .sbc (s.reg .h) 1 s
/-- `SBC A,L` (R226). -/
def execSbc_A_L (s : State) : Out := aluWith .sbc (s.reg .l) 1 s
/-- `SBC A,(HL)` (R227). -/
def execSbc_A_atHL (s : State) : Out := aluWith .sbc (memRead s s.hl) 2 s
/-- `SBC A,A` (R226). -/
def execSbc_A_A (s : State) : Out := aluWith .sbc (s.reg .a) 1 s
/-- `AND B` (R229). -/
def execAnd_B (s : State) : Out := aluWith .and (s.reg .b) 1 s
/-- `AND C` (R229). -/
def execAnd_C (s : State) : Out := aluWith .and (s.reg .c) 1 s
/-- `AND D` (R229). -/
def execAnd_D (s : State) : Out := aluWith .and (s.reg .d) 1 s
/-- `AND E` (R229). -/
def execAnd_E (s : State) : Out := aluWith .and (s.reg .e) 1 s
/-- `AND H` (R229). -/
def execAnd_H (s : State) : Out := aluWith .and (s.reg .h) 1 s
/-- `AND L` (R229). -/
def execAnd_L (s : State) : Out := aluWith .and (s.reg .l) 1 s
/-- `AND (HL)` (R230). -/
def execAnd_atHL (s : State) : Out := aluWith .and (memRead s s.hl) 2 s
/-- `AND A` (R229). -/
def execAnd_A (s : State) : Out := aluWith .and (s.reg .a) 1 s
/-- `XOR B` (R232). -/
def execXor_B (s : State) : Out := aluWith .xor (s.reg .b) 1 s
/-- `XOR C` (R232). -/
def execXor_C (s : State) : Out := aluWith .xor (s.reg .c) 1 s
/-- `XOR D` (R232). -/
def execXor_D (s : State) : Out := aluWith .xor (s.reg .d) 1 s
/-- `XOR E` (R232). -/
def execXor_E (s : State) : Out := aluWith .xor (s.reg .e) 1 s
/-- `XOR H` (R232). -/
def execXor_H (s : State) : Out := aluWith .xor (s.reg .h) 1 s
/-- `XOR L` (R232). -/
def execXor_L (s : State) : Out := aluWith .xor (s.reg .l) 1 s
/-- `XOR (HL)` (R233). -/
def execXor_atHL (s : State) : Out := aluWith .xor (memRead s s.hl) 2 s
/-- `XOR A` (R232). -/
def execXor_A (s : State) : Out := aluWith .xor (s.reg .a) 1 s
/-- `OR B` (R235). -/
def execOr_B (s : State) : Out := aluWith .or (s.reg .b) 1 s
/-- `OR C` (R235). -/
def execOr_C (s : State) : Out := aluWith .or (s.reg .c) 1 s
/-- `OR D` (R235). -/
def execOr_D (s : State) : Out := aluWith .or (s.reg .d) 1 s
/-- `OR E` (R235). -/
def execOr_E (s : State) : Out := aluWith .or (s.reg .e) 1 s
/-- `OR H` (R235). -/
def execOr_H (s : State) : Out := aluWith .or (s.reg .h) 1 s
/-- `OR L` (R235). -/
def execOr_L (s : State) : Out := aluWith .or (s.reg .l) 1 s
/-- `OR (HL)` (R236). -/
def execOr_atHL (s : State) : Out := aluWith .or (memRead s s.hl) 2 s
/-- `OR A` (R235). -/
def execOr_A (s : State) : Out := aluWith .or (s.reg .a) 1 s
/-- `CP B` (R238). -/
def execCp_B (s : State) : Out := aluWith .cp (s.reg .b) 1 s
/-- `CP C` (R238). -/
def execCp_C (s : State) : Out := aluWith .cp (s.reg .c) 1 s
/-- `CP D` (R238). -/
def execCp_D (s : State) : Out := aluWith .cp (s.reg .d) 1 s
/-- `CP E` (R238). -/
def execCp_E (s : State) : Out := aluWith .cp (s.reg .e) 1 s
/-- `CP H` (R238). -/
def execCp_H (s : State) : Out := aluWith .cp (s.reg .h) 1 s
/-- `CP L` (R238). -/
def execCp_L (s : State) : Out := aluWith .cp (s.reg .l) 1 s
/-- `CP (HL)` (R239). -/
def execCp_atHL (s : State) : Out := aluWith .cp (memRead s s.hl) 2 s
/-- `CP A` (R238). -/
def execCp_A (s : State) : Out := aluWith .cp (s.reg .a) 1 s
/-- `ADD A,n8` (R219). -/
def execAdd_A_n8 (n8 : Byte) (s : State) : Out := aluWith .add n8 2 s
/-- `ADC A,n8` (R222). -/
def execAdc_A_n8 (n8 : Byte) (s : State) : Out := aluWith .adc n8 2 s
/-- `SUB n8` (R225). -/
def execSub_n8 (n8 : Byte) (s : State) : Out := aluWith .sub n8 2 s
/-- `SBC A,n8` (R228). -/
def execSbc_A_n8 (n8 : Byte) (s : State) : Out := aluWith .sbc n8 2 s
/-- `AND n8` (R231). -/
def execAnd_n8 (n8 : Byte) (s : State) : Out := aluWith .and n8 2 s
/-- `XOR n8` (R234). -/
def execXor_n8 (n8 : Byte) (s : State) : Out := aluWith .xor n8 2 s
/-- `OR n8` (R237). -/
def execOr_n8 (n8 : Byte) (s : State) : Out := aluWith .or n8 2 s
/-- `CP n8` (R240). -/
def execCp_n8 (n8 : Byte) (s : State) : Out := aluWith .cp n8 2 s

end Sys2Proof.Machine
end

