-- ==== Sys2Proof/Machine/BitOps.lean ====
section
/-! DEFINITION. Bit test, clear and set (spec/44_rotate_shift_bit.md R291 to R296). Every meaning starts with `pc` past the whole instruction. -/

namespace Sys2Proof.Machine

/-- `v & ~(1 << b)` (R293). -/
def resetBit (v : Byte) (b : Nat) : Byte := v &&& ~~~(1#8 <<< b)

/-- `v | (1 << b)` (R295). -/
def setBit (v : Byte) (b : Nat) : Byte := v ||| (1#8 <<< b)

/-- `BIT b,r` (R291). -/
def testReg (b : Nat) (r : Reg8) (s : State) : Out := finish 2 (s.setFlags (bitFlags (s.reg r) b s.cpu.f))

/-- `BIT b,(HL)` (R292): one read, no write. -/
def testAtHL (b : Nat) (s : State) : Out := finish 3 (s.setFlags (bitFlags (memRead s s.hl) b s.cpu.f))

/-- `RES b,r` (R293). -/
def resetBitReg (b : Nat) (r : Reg8) (s : State) : Out := finish 2 (s.setReg r (resetBit (s.reg r) b))

/-- `RES b,(HL)` (R294): the write happens even when the bit was 0. -/
def resetBitAtHL (b : Nat) (s : State) : Out := finish 4 (memWrite s s.hl (resetBit (memRead s s.hl) b))

/-- `SET b,r` (R295). -/
def setBitReg (b : Nat) (r : Reg8) (s : State) : Out := finish 2 (s.setReg r (setBit (s.reg r) b))

/-- `SET b,(HL)` (R296). -/
def setBitAtHL (b : Nat) (s : State) : Out := finish 4 (memWrite s s.hl (setBit (memRead s s.hl) b))

/-- `BIT 0,B` (R291). -/
def execBit_0_B (s : State) : Out := testReg 0 .b s
/-- `BIT 0,C` (R291). -/
def execBit_0_C (s : State) : Out := testReg 0 .c s
/-- `BIT 0,D` (R291). -/
def execBit_0_D (s : State) : Out := testReg 0 .d s
/-- `BIT 0,E` (R291). -/
def execBit_0_E (s : State) : Out := testReg 0 .e s
/-- `BIT 0,H` (R291). -/
def execBit_0_H (s : State) : Out := testReg 0 .h s
/-- `BIT 0,L` (R291). -/
def execBit_0_L (s : State) : Out := testReg 0 .l s
/-- `BIT 0,(HL)` (R292). -/
def execBit_0_atHL (s : State) : Out := testAtHL 0 s
/-- `BIT 0,A` (R291). -/
def execBit_0_A (s : State) : Out := testReg 0 .a s
/-- `BIT 1,B` (R291). -/
def execBit_1_B (s : State) : Out := testReg 1 .b s
/-- `BIT 1,C` (R291). -/
def execBit_1_C (s : State) : Out := testReg 1 .c s
/-- `BIT 1,D` (R291). -/
def execBit_1_D (s : State) : Out := testReg 1 .d s
/-- `BIT 1,E` (R291). -/
def execBit_1_E (s : State) : Out := testReg 1 .e s
/-- `BIT 1,H` (R291). -/
def execBit_1_H (s : State) : Out := testReg 1 .h s
/-- `BIT 1,L` (R291). -/
def execBit_1_L (s : State) : Out := testReg 1 .l s
/-- `BIT 1,(HL)` (R292). -/
def execBit_1_atHL (s : State) : Out := testAtHL 1 s
/-- `BIT 1,A` (R291). -/
def execBit_1_A (s : State) : Out := testReg 1 .a s
/-- `BIT 2,B` (R291). -/
def execBit_2_B (s : State) : Out := testReg 2 .b s
/-- `BIT 2,C` (R291). -/
def execBit_2_C (s : State) : Out := testReg 2 .c s
/-- `BIT 2,D` (R291). -/
def execBit_2_D (s : State) : Out := testReg 2 .d s
/-- `BIT 2,E` (R291). -/
def execBit_2_E (s : State) : Out := testReg 2 .e s
/-- `BIT 2,H` (R291). -/
def execBit_2_H (s : State) : Out := testReg 2 .h s
/-- `BIT 2,L` (R291). -/
def execBit_2_L (s : State) : Out := testReg 2 .l s
/-- `BIT 2,(HL)` (R292). -/
def execBit_2_atHL (s : State) : Out := testAtHL 2 s
/-- `BIT 2,A` (R291). -/
def execBit_2_A (s : State) : Out := testReg 2 .a s
/-- `BIT 3,B` (R291). -/
def execBit_3_B (s : State) : Out := testReg 3 .b s
/-- `BIT 3,C` (R291). -/
def execBit_3_C (s : State) : Out := testReg 3 .c s
/-- `BIT 3,D` (R291). -/
def execBit_3_D (s : State) : Out := testReg 3 .d s
/-- `BIT 3,E` (R291). -/
def execBit_3_E (s : State) : Out := testReg 3 .e s
/-- `BIT 3,H` (R291). -/
def execBit_3_H (s : State) : Out := testReg 3 .h s
/-- `BIT 3,L` (R291). -/
def execBit_3_L (s : State) : Out := testReg 3 .l s
/-- `BIT 3,(HL)` (R292). -/
def execBit_3_atHL (s : State) : Out := testAtHL 3 s
/-- `BIT 3,A` (R291). -/
def execBit_3_A (s : State) : Out := testReg 3 .a s
/-- `BIT 4,B` (R291). -/
def execBit_4_B (s : State) : Out := testReg 4 .b s
/-- `BIT 4,C` (R291). -/
def execBit_4_C (s : State) : Out := testReg 4 .c s
/-- `BIT 4,D` (R291). -/
def execBit_4_D (s : State) : Out := testReg 4 .d s
/-- `BIT 4,E` (R291). -/
def execBit_4_E (s : State) : Out := testReg 4 .e s
/-- `BIT 4,H` (R291). -/
def execBit_4_H (s : State) : Out := testReg 4 .h s
/-- `BIT 4,L` (R291). -/
def execBit_4_L (s : State) : Out := testReg 4 .l s
/-- `BIT 4,(HL)` (R292). -/
def execBit_4_atHL (s : State) : Out := testAtHL 4 s
/-- `BIT 4,A` (R291). -/
def execBit_4_A (s : State) : Out := testReg 4 .a s
/-- `BIT 5,B` (R291). -/
def execBit_5_B (s : State) : Out := testReg 5 .b s
/-- `BIT 5,C` (R291). -/
def execBit_5_C (s : State) : Out := testReg 5 .c s
/-- `BIT 5,D` (R291). -/
def execBit_5_D (s : State) : Out := testReg 5 .d s
/-- `BIT 5,E` (R291). -/
def execBit_5_E (s : State) : Out := testReg 5 .e s
/-- `BIT 5,H` (R291). -/
def execBit_5_H (s : State) : Out := testReg 5 .h s
/-- `BIT 5,L` (R291). -/
def execBit_5_L (s : State) : Out := testReg 5 .l s
/-- `BIT 5,(HL)` (R292). -/
def execBit_5_atHL (s : State) : Out := testAtHL 5 s
/-- `BIT 5,A` (R291). -/
def execBit_5_A (s : State) : Out := testReg 5 .a s
/-- `BIT 6,B` (R291). -/
def execBit_6_B (s : State) : Out := testReg 6 .b s
/-- `BIT 6,C` (R291). -/
def execBit_6_C (s : State) : Out := testReg 6 .c s
/-- `BIT 6,D` (R291). -/
def execBit_6_D (s : State) : Out := testReg 6 .d s
/-- `BIT 6,E` (R291). -/
def execBit_6_E (s : State) : Out := testReg 6 .e s
/-- `BIT 6,H` (R291). -/
def execBit_6_H (s : State) : Out := testReg 6 .h s
/-- `BIT 6,L` (R291). -/
def execBit_6_L (s : State) : Out := testReg 6 .l s
/-- `BIT 6,(HL)` (R292). -/
def execBit_6_atHL (s : State) : Out := testAtHL 6 s
/-- `BIT 6,A` (R291). -/
def execBit_6_A (s : State) : Out := testReg 6 .a s
/-- `BIT 7,B` (R291). -/
def execBit_7_B (s : State) : Out := testReg 7 .b s
/-- `BIT 7,C` (R291). -/
def execBit_7_C (s : State) : Out := testReg 7 .c s
/-- `BIT 7,D` (R291). -/
def execBit_7_D (s : State) : Out := testReg 7 .d s
/-- `BIT 7,E` (R291). -/
def execBit_7_E (s : State) : Out := testReg 7 .e s
/-- `BIT 7,H` (R291). -/
def execBit_7_H (s : State) : Out := testReg 7 .h s
/-- `BIT 7,L` (R291). -/
def execBit_7_L (s : State) : Out := testReg 7 .l s
/-- `BIT 7,(HL)` (R292). -/
def execBit_7_atHL (s : State) : Out := testAtHL 7 s
/-- `BIT 7,A` (R291). -/
def execBit_7_A (s : State) : Out := testReg 7 .a s
/-- `RES 0,B` (R293). -/
def execRes_0_B (s : State) : Out := resetBitReg 0 .b s
/-- `RES 0,C` (R293). -/
def execRes_0_C (s : State) : Out := resetBitReg 0 .c s
/-- `RES 0,D` (R293). -/
def execRes_0_D (s : State) : Out := resetBitReg 0 .d s
/-- `RES 0,E` (R293). -/
def execRes_0_E (s : State) : Out := resetBitReg 0 .e s
/-- `RES 0,H` (R293). -/
def execRes_0_H (s : State) : Out := resetBitReg 0 .h s
/-- `RES 0,L` (R293). -/
def execRes_0_L (s : State) : Out := resetBitReg 0 .l s
/-- `RES 0,(HL)` (R294). -/
def execRes_0_atHL (s : State) : Out := resetBitAtHL 0 s
/-- `RES 0,A` (R293). -/
def execRes_0_A (s : State) : Out := resetBitReg 0 .a s
/-- `RES 1,B` (R293). -/
def execRes_1_B (s : State) : Out := resetBitReg 1 .b s
/-- `RES 1,C` (R293). -/
def execRes_1_C (s : State) : Out := resetBitReg 1 .c s
/-- `RES 1,D` (R293). -/
def execRes_1_D (s : State) : Out := resetBitReg 1 .d s
/-- `RES 1,E` (R293). -/
def execRes_1_E (s : State) : Out := resetBitReg 1 .e s
/-- `RES 1,H` (R293). -/
def execRes_1_H (s : State) : Out := resetBitReg 1 .h s
/-- `RES 1,L` (R293). -/
def execRes_1_L (s : State) : Out := resetBitReg 1 .l s
/-- `RES 1,(HL)` (R294). -/
def execRes_1_atHL (s : State) : Out := resetBitAtHL 1 s
/-- `RES 1,A` (R293). -/
def execRes_1_A (s : State) : Out := resetBitReg 1 .a s
/-- `RES 2,B` (R293). -/
def execRes_2_B (s : State) : Out := resetBitReg 2 .b s
/-- `RES 2,C` (R293). -/
def execRes_2_C (s : State) : Out := resetBitReg 2 .c s
/-- `RES 2,D` (R293). -/
def execRes_2_D (s : State) : Out := resetBitReg 2 .d s
/-- `RES 2,E` (R293). -/
def execRes_2_E (s : State) : Out := resetBitReg 2 .e s
/-- `RES 2,H` (R293). -/
def execRes_2_H (s : State) : Out := resetBitReg 2 .h s
/-- `RES 2,L` (R293). -/
def execRes_2_L (s : State) : Out := resetBitReg 2 .l s
/-- `RES 2,(HL)` (R294). -/
def execRes_2_atHL (s : State) : Out := resetBitAtHL 2 s
/-- `RES 2,A` (R293). -/
def execRes_2_A (s : State) : Out := resetBitReg 2 .a s
/-- `RES 3,B` (R293). -/
def execRes_3_B (s : State) : Out := resetBitReg 3 .b s
/-- `RES 3,C` (R293). -/
def execRes_3_C (s : State) : Out := resetBitReg 3 .c s
/-- `RES 3,D` (R293). -/
def execRes_3_D (s : State) : Out := resetBitReg 3 .d s
/-- `RES 3,E` (R293). -/
def execRes_3_E (s : State) : Out := resetBitReg 3 .e s
/-- `RES 3,H` (R293). -/
def execRes_3_H (s : State) : Out := resetBitReg 3 .h s
/-- `RES 3,L` (R293). -/
def execRes_3_L (s : State) : Out := resetBitReg 3 .l s
/-- `RES 3,(HL)` (R294). -/
def execRes_3_atHL (s : State) : Out := resetBitAtHL 3 s
/-- `RES 3,A` (R293). -/
def execRes_3_A (s : State) : Out := resetBitReg 3 .a s
/-- `RES 4,B` (R293). -/
def execRes_4_B (s : State) : Out := resetBitReg 4 .b s
/-- `RES 4,C` (R293). -/
def execRes_4_C (s : State) : Out := resetBitReg 4 .c s
/-- `RES 4,D` (R293). -/
def execRes_4_D (s : State) : Out := resetBitReg 4 .d s
/-- `RES 4,E` (R293). -/
def execRes_4_E (s : State) : Out := resetBitReg 4 .e s
/-- `RES 4,H` (R293). -/
def execRes_4_H (s : State) : Out := resetBitReg 4 .h s
/-- `RES 4,L` (R293). -/
def execRes_4_L (s : State) : Out := resetBitReg 4 .l s
/-- `RES 4,(HL)` (R294). -/
def execRes_4_atHL (s : State) : Out := resetBitAtHL 4 s
/-- `RES 4,A` (R293). -/
def execRes_4_A (s : State) : Out := resetBitReg 4 .a s
/-- `RES 5,B` (R293). -/
def execRes_5_B (s : State) : Out := resetBitReg 5 .b s
/-- `RES 5,C` (R293). -/
def execRes_5_C (s : State) : Out := resetBitReg 5 .c s
/-- `RES 5,D` (R293). -/
def execRes_5_D (s : State) : Out := resetBitReg 5 .d s
/-- `RES 5,E` (R293). -/
def execRes_5_E (s : State) : Out := resetBitReg 5 .e s
/-- `RES 5,H` (R293). -/
def execRes_5_H (s : State) : Out := resetBitReg 5 .h s
/-- `RES 5,L` (R293). -/
def execRes_5_L (s : State) : Out := resetBitReg 5 .l s
/-- `RES 5,(HL)` (R294). -/
def execRes_5_atHL (s : State) : Out := resetBitAtHL 5 s
/-- `RES 5,A` (R293). -/
def execRes_5_A (s : State) : Out := resetBitReg 5 .a s
/-- `RES 6,B` (R293). -/
def execRes_6_B (s : State) : Out := resetBitReg 6 .b s
/-- `RES 6,C` (R293). -/
def execRes_6_C (s : State) : Out := resetBitReg 6 .c s
/-- `RES 6,D` (R293). -/
def execRes_6_D (s : State) : Out := resetBitReg 6 .d s
/-- `RES 6,E` (R293). -/
def execRes_6_E (s : State) : Out := resetBitReg 6 .e s
/-- `RES 6,H` (R293). -/
def execRes_6_H (s : State) : Out := resetBitReg 6 .h s
/-- `RES 6,L` (R293). -/
def execRes_6_L (s : State) : Out := resetBitReg 6 .l s
/-- `RES 6,(HL)` (R294). -/
def execRes_6_atHL (s : State) : Out := resetBitAtHL 6 s
/-- `RES 6,A` (R293). -/
def execRes_6_A (s : State) : Out := resetBitReg 6 .a s
/-- `RES 7,B` (R293). -/
def execRes_7_B (s : State) : Out := resetBitReg 7 .b s
/-- `RES 7,C` (R293). -/
def execRes_7_C (s : State) : Out := resetBitReg 7 .c s
/-- `RES 7,D` (R293). -/
def execRes_7_D (s : State) : Out := resetBitReg 7 .d s
/-- `RES 7,E` (R293). -/
def execRes_7_E (s : State) : Out := resetBitReg 7 .e s
/-- `RES 7,H` (R293). -/
def execRes_7_H (s : State) : Out := resetBitReg 7 .h s
/-- `RES 7,L` (R293). -/
def execRes_7_L (s : State) : Out := resetBitReg 7 .l s
/-- `RES 7,(HL)` (R294). -/
def execRes_7_atHL (s : State) : Out := resetBitAtHL 7 s
/-- `RES 7,A` (R293). -/
def execRes_7_A (s : State) : Out := resetBitReg 7 .a s
/-- `SET 0,B` (R295). -/
def execSet_0_B (s : State) : Out := setBitReg 0 .b s
/-- `SET 0,C` (R295). -/
def execSet_0_C (s : State) : Out := setBitReg 0 .c s
/-- `SET 0,D` (R295). -/
def execSet_0_D (s : State) : Out := setBitReg 0 .d s
/-- `SET 0,E` (R295). -/
def execSet_0_E (s : State) : Out := setBitReg 0 .e s
/-- `SET 0,H` (R295). -/
def execSet_0_H (s : State) : Out := setBitReg 0 .h s
/-- `SET 0,L` (R295). -/
def execSet_0_L (s : State) : Out := setBitReg 0 .l s
/-- `SET 0,(HL)` (R296). -/
def execSet_0_atHL (s : State) : Out := setBitAtHL 0 s
/-- `SET 0,A` (R295). -/
def execSet_0_A (s : State) : Out := setBitReg 0 .a s
/-- `SET 1,B` (R295). -/
def execSet_1_B (s : State) : Out := setBitReg 1 .b s
/-- `SET 1,C` (R295). -/
def execSet_1_C (s : State) : Out := setBitReg 1 .c s
/-- `SET 1,D` (R295). -/
def execSet_1_D (s : State) : Out := setBitReg 1 .d s
/-- `SET 1,E` (R295). -/
def execSet_1_E (s : State) : Out := setBitReg 1 .e s
/-- `SET 1,H` (R295). -/
def execSet_1_H (s : State) : Out := setBitReg 1 .h s
/-- `SET 1,L` (R295). -/
def execSet_1_L (s : State) : Out := setBitReg 1 .l s
/-- `SET 1,(HL)` (R296). -/
def execSet_1_atHL (s : State) : Out := setBitAtHL 1 s
/-- `SET 1,A` (R295). -/
def execSet_1_A (s : State) : Out := setBitReg 1 .a s
/-- `SET 2,B` (R295). -/
def execSet_2_B (s : State) : Out := setBitReg 2 .b s
/-- `SET 2,C` (R295). -/
def execSet_2_C (s : State) : Out := setBitReg 2 .c s
/-- `SET 2,D` (R295). -/
def execSet_2_D (s : State) : Out := setBitReg 2 .d s
/-- `SET 2,E` (R295). -/
def execSet_2_E (s : State) : Out := setBitReg 2 .e s
/-- `SET 2,H` (R295). -/
def execSet_2_H (s : State) : Out := setBitReg 2 .h s
/-- `SET 2,L` (R295). -/
def execSet_2_L (s : State) : Out := setBitReg 2 .l s
/-- `SET 2,(HL)` (R296). -/
def execSet_2_atHL (s : State) : Out := setBitAtHL 2 s
/-- `SET 2,A` (R295). -/
def execSet_2_A (s : State) : Out := setBitReg 2 .a s
/-- `SET 3,B` (R295). -/
def execSet_3_B (s : State) : Out := setBitReg 3 .b s
/-- `SET 3,C` (R295). -/
def execSet_3_C (s : State) : Out := setBitReg 3 .c s
/-- `SET 3,D` (R295). -/
def execSet_3_D (s : State) : Out := setBitReg 3 .d s
/-- `SET 3,E` (R295). -/
def execSet_3_E (s : State) : Out := setBitReg 3 .e s
/-- `SET 3,H` (R295). -/
def execSet_3_H (s : State) : Out := setBitReg 3 .h s
/-- `SET 3,L` (R295). -/
def execSet_3_L (s : State) : Out := setBitReg 3 .l s
/-- `SET 3,(HL)` (R296). -/
def execSet_3_atHL (s : State) : Out := setBitAtHL 3 s
/-- `SET 3,A` (R295). -/
def execSet_3_A (s : State) : Out := setBitReg 3 .a s
/-- `SET 4,B` (R295). -/
def execSet_4_B (s : State) : Out := setBitReg 4 .b s
/-- `SET 4,C` (R295). -/
def execSet_4_C (s : State) : Out := setBitReg 4 .c s
/-- `SET 4,D` (R295). -/
def execSet_4_D (s : State) : Out := setBitReg 4 .d s
/-- `SET 4,E` (R295). -/
def execSet_4_E (s : State) : Out := setBitReg 4 .e s
/-- `SET 4,H` (R295). -/
def execSet_4_H (s : State) : Out := setBitReg 4 .h s
/-- `SET 4,L` (R295). -/
def execSet_4_L (s : State) : Out := setBitReg 4 .l s
/-- `SET 4,(HL)` (R296). -/
def execSet_4_atHL (s : State) : Out := setBitAtHL 4 s
/-- `SET 4,A` (R295). -/
def execSet_4_A (s : State) : Out := setBitReg 4 .a s
/-- `SET 5,B` (R295). -/
def execSet_5_B (s : State) : Out := setBitReg 5 .b s
/-- `SET 5,C` (R295). -/
def execSet_5_C (s : State) : Out := setBitReg 5 .c s
/-- `SET 5,D` (R295). -/
def execSet_5_D (s : State) : Out := setBitReg 5 .d s
/-- `SET 5,E` (R295). -/
def execSet_5_E (s : State) : Out := setBitReg 5 .e s
/-- `SET 5,H` (R295). -/
def execSet_5_H (s : State) : Out := setBitReg 5 .h s
/-- `SET 5,L` (R295). -/
def execSet_5_L (s : State) : Out := setBitReg 5 .l s
/-- `SET 5,(HL)` (R296). -/
def execSet_5_atHL (s : State) : Out := setBitAtHL 5 s
/-- `SET 5,A` (R295). -/
def execSet_5_A (s : State) : Out := setBitReg 5 .a s
/-- `SET 6,B` (R295). -/
def execSet_6_B (s : State) : Out := setBitReg 6 .b s
/-- `SET 6,C` (R295). -/
def execSet_6_C (s : State) : Out := setBitReg 6 .c s
/-- `SET 6,D` (R295). -/
def execSet_6_D (s : State) : Out := setBitReg 6 .d s
/-- `SET 6,E` (R295). -/
def execSet_6_E (s : State) : Out := setBitReg 6 .e s
/-- `SET 6,H` (R295). -/
def execSet_6_H (s : State) : Out := setBitReg 6 .h s
/-- `SET 6,L` (R295). -/
def execSet_6_L (s : State) : Out := setBitReg 6 .l s
/-- `SET 6,(HL)` (R296). -/
def execSet_6_atHL (s : State) : Out := setBitAtHL 6 s
/-- `SET 6,A` (R295). -/
def execSet_6_A (s : State) : Out := setBitReg 6 .a s
/-- `SET 7,B` (R295). -/
def execSet_7_B (s : State) : Out := setBitReg 7 .b s
/-- `SET 7,C` (R295). -/
def execSet_7_C (s : State) : Out := setBitReg 7 .c s
/-- `SET 7,D` (R295). -/
def execSet_7_D (s : State) : Out := setBitReg 7 .d s
/-- `SET 7,E` (R295). -/
def execSet_7_E (s : State) : Out := setBitReg 7 .e s
/-- `SET 7,H` (R295). -/
def execSet_7_H (s : State) : Out := setBitReg 7 .h s
/-- `SET 7,L` (R295). -/
def execSet_7_L (s : State) : Out := setBitReg 7 .l s
/-- `SET 7,(HL)` (R296). -/
def execSet_7_atHL (s : State) : Out := setBitAtHL 7 s
/-- `SET 7,A` (R295). -/
def execSet_7_A (s : State) : Out := setBitReg 7 .a s

end Sys2Proof.Machine
end

