-- ==== Sys2Proof/Machine/Control.lean ====
section
/-! DEFINITION. Control transfers (spec/45_control.md R301 to R312). Every meaning starts with `pc` past the whole instruction. -/

namespace Sys2Proof.Machine

/-- `pc + sext_16(e)`; `pc` is already past the offset byte (R304). -/
def relativeTarget (s : State) (e : Byte) : Word := s.cpu.pc + sext16 e

/-- `JP cc,n16` (R302). -/
def jumpIf (cc : Cond) (a : Word) (s : State) : Out := if s.cond cc then finish 4 (s.setPc a) else finish 3 s

/-- `JR cc,e8` (R305). -/
def relativeIf (cc : Cond) (e : Byte) (s : State) : Out :=
  if s.cond cc then finish 3 (s.setPc (relativeTarget s e)) else finish 2 s

/-- `CALL cc,n16` (R307). -/
def callIf (cc : Cond) (a : Word) (s : State) : Out := if s.cond cc then finish 6 (callTo a s) else finish 3 s

/-- `RET cc` (R309). -/
def returnIf (cc : Cond) (s : State) : Out := if s.cond cc then finish 5 (returnTo s) else finish 2 s

/-- `JR e8` (R304). -/
def execJr_e8 (e8 : Byte) (s : State) : Out := finish 3 (s.setPc (relativeTarget s e8))
/-- `JR NZ,e8` (R305). -/
def execJr_NZ_e8 (e8 : Byte) (s : State) : Out := relativeIf .nz e8 s
/-- `JR Z,e8` (R305). -/
def execJr_Z_e8 (e8 : Byte) (s : State) : Out := relativeIf .z e8 s
/-- `JR NC,e8` (R305). -/
def execJr_NC_e8 (e8 : Byte) (s : State) : Out := relativeIf .nc e8 s
/-- `JR C,e8` (R305). -/
def execJr_C_e8 (e8 : Byte) (s : State) : Out := relativeIf .c e8 s
/-- `RET NZ` (R309). -/
def execRet_NZ (s : State) : Out := returnIf .nz s
/-- `JP NZ,n16` (R302). -/
def execJp_NZ_n16 (n16 : Word) (s : State) : Out := jumpIf .nz n16 s
/-- `JP n16` (R301). -/
def execJp_n16 (n16 : Word) (s : State) : Out := finish 4 (s.setPc n16)
/-- `CALL NZ,n16` (R307). -/
def execCall_NZ_n16 (n16 : Word) (s : State) : Out := callIf .nz n16 s
/-- `RST 0x00` (R311). -/
def execRst_00 (s : State) : Out := finish 4 (callTo 0x0000 s)
/-- `RET Z` (R309). -/
def execRet_Z (s : State) : Out := returnIf .z s
/-- `RET` (R308). -/
def execRet (s : State) : Out := finish 4 (returnTo s)
/-- `JP Z,n16` (R302). -/
def execJp_Z_n16 (n16 : Word) (s : State) : Out := jumpIf .z n16 s
/-- `CALL Z,n16` (R307). -/
def execCall_Z_n16 (n16 : Word) (s : State) : Out := callIf .z n16 s
/-- `CALL n16` (R306). -/
def execCall_n16 (n16 : Word) (s : State) : Out := finish 6 (callTo n16 s)
/-- `RST 0x08` (R311). -/
def execRst_08 (s : State) : Out := finish 4 (callTo 0x0008 s)
/-- `RET NC` (R309). -/
def execRet_NC (s : State) : Out := returnIf .nc s
/-- `JP NC,n16` (R302). -/
def execJp_NC_n16 (n16 : Word) (s : State) : Out := jumpIf .nc n16 s
/-- `CALL NC,n16` (R307). -/
def execCall_NC_n16 (n16 : Word) (s : State) : Out := callIf .nc n16 s
/-- `RST 0x10` (R311). -/
def execRst_10 (s : State) : Out := finish 4 (callTo 0x0010 s)
/-- `RET C` (R309). -/
def execRet_C (s : State) : Out := returnIf .c s
/-- `RETI` (R310). -/
def execReti (s : State) : Out := finish 4 (returnFromHandler s)
/-- `JP C,n16` (R302). -/
def execJp_C_n16 (n16 : Word) (s : State) : Out := jumpIf .c n16 s
/-- `CALL C,n16` (R307). -/
def execCall_C_n16 (n16 : Word) (s : State) : Out := callIf .c n16 s
/-- `RST 0x18` (R311). -/
def execRst_18 (s : State) : Out := finish 4 (callTo 0x0018 s)
/-- `RST 0x20` (R311). -/
def execRst_20 (s : State) : Out := finish 4 (callTo 0x0020 s)
/-- `JP HL` (R303). -/
def execJp_HL (s : State) : Out := finish 1 (s.setPc s.hl)
/-- `RST 0x28` (R311). -/
def execRst_28 (s : State) : Out := finish 4 (callTo 0x0028 s)
/-- `RST 0x30` (R311). -/
def execRst_30 (s : State) : Out := finish 4 (callTo 0x0030 s)
/-- `RST 0x38` (R311). -/
def execRst_38 (s : State) : Out := finish 4 (callTo 0x0038 s)

end Sys2Proof.Machine
end

