-- ==== Sys2Proof/Machine/Load16.lean ====
section
/-! DEFINITION. 16-bit loads, stores and the stack (spec/41_load16_stack.md R201 to R207). Every meaning starts with `pc` past the whole instruction. -/

namespace Sys2Proof.Machine

/-- `xx[rr] <- imm16()` (R201). -/
def loadPairImm (p : Pair) (n : Word) (s : State) : Out := finish 3 (s.setPair p n)

/-- `MemWrite(a, 1, sp[7:0]); MemWrite(a + 1, 1, sp[15:8])` (R202). -/
def storeSp (a : Word) (s : State) : Out :=
  finish 5 (memWrite (memWrite s a (loByte s.cpu.sp)) (a + 1) (hiByte s.cpu.sp))

/-- `LD HL,SP+e8` (R204). -/
def loadHLSpPlus (e : Byte) (s : State) : Out :=
  let r := spPlusE s.cpu.sp e
  finish 3 ((s.setPair .hl r.1).setFlags r.2)

/-- `push16(xx[rr2])` (R205). -/
def pushOf (p : StackPair) (s : State) : Out := finish 4 (push16 s (s.stackPair p))

/-- `xx[rr2] <- pop16()` (R206, R207). -/
def popTo (p : StackPair) (s : State) : Out :=
  let r := pop16 s
  finish 3 (r.2.setStackPair p r.1)

/-- `LD BC,n16` (R201). -/
def execLd_BC_n16 (n16 : Word) (s : State) : Out := loadPairImm .bc n16 s
/-- `LD (n16),SP` (R202). -/
def execLd_atN16_SP (n16 : Word) (s : State) : Out := storeSp n16 s
/-- `LD DE,n16` (R201). -/
def execLd_DE_n16 (n16 : Word) (s : State) : Out := loadPairImm .de n16 s
/-- `LD HL,n16` (R201). -/
def execLd_HL_n16 (n16 : Word) (s : State) : Out := loadPairImm .hl n16 s
/-- `LD SP,n16` (R201). -/
def execLd_SP_n16 (n16 : Word) (s : State) : Out := loadPairImm .sp n16 s
/-- `POP BC` (R206). -/
def execPop_BC (s : State) : Out := popTo .bc s
/-- `PUSH BC` (R205). -/
def execPush_BC (s : State) : Out := pushOf .bc s
/-- `POP DE` (R206). -/
def execPop_DE (s : State) : Out := popTo .de s
/-- `PUSH DE` (R205). -/
def execPush_DE (s : State) : Out := pushOf .de s
/-- `POP HL` (R206). -/
def execPop_HL (s : State) : Out := popTo .hl s
/-- `PUSH HL` (R205). -/
def execPush_HL (s : State) : Out := pushOf .hl s
/-- `POP AF` (R207). -/
def execPop_AF (s : State) : Out := popTo .af s
/-- `PUSH AF` (R205). -/
def execPush_AF (s : State) : Out := pushOf .af s
/-- `LD HL,SP+e8` (R204). -/
def execLd_HL_SP_e8 (e8 : Byte) (s : State) : Out := loadHLSpPlus e8 s
/-- `LD SP,HL` (R203). -/
def execLd_SP_HL (s : State) : Out := finish 2 (s.setSp s.hl)

end Sys2Proof.Machine
end

