-- ==== Sys2Proof/Machine/Load8.lean ====
section
/-! DEFINITION. 8-bit loads and stores (spec/40_load8.md R171 to R190). Every meaning starts with `pc` past the whole instruction. -/

namespace Sys2Proof.Machine

/-- `x[r] <- x[r']` (R171). -/
def copyReg (dst r : Reg8) (s : State) : Out := finish 1 (s.setReg dst (s.reg r))

/-- `x[r] <- imm8()` (R172). -/
def loadImm (dst : Reg8) (n : Byte) (s : State) : Out := finish 2 (s.setReg dst n)

/-- `x[r] <- MemRead(addr, 1)`, of cost `n` (R173, R176, R177, R180, R183, R185). -/
def loadAt (dst : Reg8) (addr : Word) (n : Nat) (s : State) : Out := finish n (s.setReg dst (memRead s addr))

/-- `MemWrite(addr, 1, v)`, of cost `n` (R174, R175, R178, R179, R181, R184, R186). -/
def storeAt (addr : Word) (v : Byte) (n : Nat) (s : State) : Out := finish n (memWrite s addr v)

/-- `MemWrite(xx[HL], 1, x[A]); xx[HL] <- xx[HL] + d` (R187, R188). -/
def storeThenHL (d : Word) (s : State) : Out := finish 2 ((memWrite s s.hl s.cpu.a).setPair .hl (s.hl + d))

/-- `x[A] <- MemRead(xx[HL], 1); xx[HL] <- xx[HL] + d` (R189, R190). -/
def loadThenHL (d : Word) (s : State) : Out := finish 2 ((s.setReg .a (memRead s s.hl)).setPair .hl (s.hl + d))

/-- `LD (BC),A` (R178). -/
def execLd_atBC_A (s : State) : Out := storeAt (s.pair .bc) s.cpu.a 2 s
/-- `LD B,n8` (R172). -/
def execLd_B_n8 (n8 : Byte) (s : State) : Out := loadImm .b n8 s
/-- `LD A,(BC)` (R176). -/
def execLd_A_atBC (s : State) : Out := loadAt .a (s.pair .bc) 2 s
/-- `LD C,n8` (R172). -/
def execLd_C_n8 (n8 : Byte) (s : State) : Out := loadImm .c n8 s
/-- `LD (DE),A` (R179). -/
def execLd_atDE_A (s : State) : Out := storeAt (s.pair .de) s.cpu.a 2 s
/-- `LD D,n8` (R172). -/
def execLd_D_n8 (n8 : Byte) (s : State) : Out := loadImm .d n8 s
/-- `LD A,(DE)` (R177). -/
def execLd_A_atDE (s : State) : Out := loadAt .a (s.pair .de) 2 s
/-- `LD E,n8` (R172). -/
def execLd_E_n8 (n8 : Byte) (s : State) : Out := loadImm .e n8 s
/-- `LD (HL+),A` (R187). -/
def execLd_atHLI_A (s : State) : Out := storeThenHL 1 s
/-- `LD H,n8` (R172). -/
def execLd_H_n8 (n8 : Byte) (s : State) : Out := loadImm .h n8 s
/-- `LD A,(HL+)` (R189). -/
def execLd_A_atHLI (s : State) : Out := loadThenHL 1 s
/-- `LD L,n8` (R172). -/
def execLd_L_n8 (n8 : Byte) (s : State) : Out := loadImm .l n8 s
/-- `LD (HL-),A` (R188). -/
def execLd_atHLD_A (s : State) : Out := storeThenHL (-1) s
/-- `LD (HL),n8` (R175). -/
def execLd_atHL_n8 (n8 : Byte) (s : State) : Out := storeAt s.hl n8 3 s
/-- `LD A,(HL-)` (R190). -/
def execLd_A_atHLD (s : State) : Out := loadThenHL (-1) s
/-- `LD A,n8` (R172). -/
def execLd_A_n8 (n8 : Byte) (s : State) : Out := loadImm .a n8 s
/-- `LD B,B` (R171). -/
def execLd_B_B (s : State) : Out := copyReg .b .b s
/-- `LD B,C` (R171). -/
def execLd_B_C (s : State) : Out := copyReg .b .c s
/-- `LD B,D` (R171). -/
def execLd_B_D (s : State) : Out := copyReg .b .d s
/-- `LD B,E` (R171). -/
def execLd_B_E (s : State) : Out := copyReg .b .e s
/-- `LD B,H` (R171). -/
def execLd_B_H (s : State) : Out := copyReg .b .h s
/-- `LD B,L` (R171). -/
def execLd_B_L (s : State) : Out := copyReg .b .l s
/-- `LD B,(HL)` (R173). -/
def execLd_B_atHL (s : State) : Out := loadAt .b s.hl 2 s
/-- `LD B,A` (R171). -/
def execLd_B_A (s : State) : Out := copyReg .b .a s
/-- `LD C,B` (R171). -/
def execLd_C_B (s : State) : Out := copyReg .c .b s
/-- `LD C,C` (R171). -/
def execLd_C_C (s : State) : Out := copyReg .c .c s
/-- `LD C,D` (R171). -/
def execLd_C_D (s : State) : Out := copyReg .c .d s
/-- `LD C,E` (R171). -/
def execLd_C_E (s : State) : Out := copyReg .c .e s
/-- `LD C,H` (R171). -/
def execLd_C_H (s : State) : Out := copyReg .c .h s
/-- `LD C,L` (R171). -/
def execLd_C_L (s : State) : Out := copyReg .c .l s
/-- `LD C,(HL)` (R173). -/
def execLd_C_atHL (s : State) : Out := loadAt .c s.hl 2 s
/-- `LD C,A` (R171). -/
def execLd_C_A (s : State) : Out := copyReg .c .a s
/-- `LD D,B` (R171). -/
def execLd_D_B (s : State) : Out := copyReg .d .b s
/-- `LD D,C` (R171). -/
def execLd_D_C (s : State) : Out := copyReg .d .c s
/-- `LD D,D` (R171). -/
def execLd_D_D (s : State) : Out := copyReg .d .d s
/-- `LD D,E` (R171). -/
def execLd_D_E (s : State) : Out := copyReg .d .e s
/-- `LD D,H` (R171). -/
def execLd_D_H (s : State) : Out := copyReg .d .h s
/-- `LD D,L` (R171). -/
def execLd_D_L (s : State) : Out := copyReg .d .l s
/-- `LD D,(HL)` (R173). -/
def execLd_D_atHL (s : State) : Out := loadAt .d s.hl 2 s
/-- `LD D,A` (R171). -/
def execLd_D_A (s : State) : Out := copyReg .d .a s
/-- `LD E,B` (R171). -/
def execLd_E_B (s : State) : Out := copyReg .e .b s
/-- `LD E,C` (R171). -/
def execLd_E_C (s : State) : Out := copyReg .e .c s
/-- `LD E,D` (R171). -/
def execLd_E_D (s : State) : Out := copyReg .e .d s
/-- `LD E,E` (R171). -/
def execLd_E_E (s : State) : Out := copyReg .e .e s
/-- `LD E,H` (R171). -/
def execLd_E_H (s : State) : Out := copyReg .e .h s
/-- `LD E,L` (R171). -/
def execLd_E_L (s : State) : Out := copyReg .e .l s
/-- `LD E,(HL)` (R173). -/
def execLd_E_atHL (s : State) : Out := loadAt .e s.hl 2 s
/-- `LD E,A` (R171). -/
def execLd_E_A (s : State) : Out := copyReg .e .a s
/-- `LD H,B` (R171). -/
def execLd_H_B (s : State) : Out := copyReg .h .b s
/-- `LD H,C` (R171). -/
def execLd_H_C (s : State) : Out := copyReg .h .c s
/-- `LD H,D` (R171). -/
def execLd_H_D (s : State) : Out := copyReg .h .d s
/-- `LD H,E` (R171). -/
def execLd_H_E (s : State) : Out := copyReg .h .e s
/-- `LD H,H` (R171). -/
def execLd_H_H (s : State) : Out := copyReg .h .h s
/-- `LD H,L` (R171). -/
def execLd_H_L (s : State) : Out := copyReg .h .l s
/-- `LD H,(HL)` (R173). -/
def execLd_H_atHL (s : State) : Out := loadAt .h s.hl 2 s
/-- `LD H,A` (R171). -/
def execLd_H_A (s : State) : Out := copyReg .h .a s
/-- `LD L,B` (R171). -/
def execLd_L_B (s : State) : Out := copyReg .l .b s
/-- `LD L,C` (R171). -/
def execLd_L_C (s : State) : Out := copyReg .l .c s
/-- `LD L,D` (R171). -/
def execLd_L_D (s : State) : Out := copyReg .l .d s
/-- `LD L,E` (R171). -/
def execLd_L_E (s : State) : Out := copyReg .l .e s
/-- `LD L,H` (R171). -/
def execLd_L_H (s : State) : Out := copyReg .l .h s
/-- `LD L,L` (R171). -/
def execLd_L_L (s : State) : Out := copyReg .l .l s
/-- `LD L,(HL)` (R173). -/
def execLd_L_atHL (s : State) : Out := loadAt .l s.hl 2 s
/-- `LD L,A` (R171). -/
def execLd_L_A (s : State) : Out := copyReg .l .a s
/-- `LD (HL),B` (R174). -/
def execLd_atHL_B (s : State) : Out := storeAt s.hl (s.reg .b) 2 s
/-- `LD (HL),C` (R174). -/
def execLd_atHL_C (s : State) : Out := storeAt s.hl (s.reg .c) 2 s
/-- `LD (HL),D` (R174). -/
def execLd_atHL_D (s : State) : Out := storeAt s.hl (s.reg .d) 2 s
/-- `LD (HL),E` (R174). -/
def execLd_atHL_E (s : State) : Out := storeAt s.hl (s.reg .e) 2 s
/-- `LD (HL),H` (R174). -/
def execLd_atHL_H (s : State) : Out := storeAt s.hl (s.reg .h) 2 s
/-- `LD (HL),L` (R174). -/
def execLd_atHL_L (s : State) : Out := storeAt s.hl (s.reg .l) 2 s
/-- `LD (HL),A` (R174). -/
def execLd_atHL_A (s : State) : Out := storeAt s.hl (s.reg .a) 2 s
/-- `LD A,B` (R171). -/
def execLd_A_B (s : State) : Out := copyReg .a .b s
/-- `LD A,C` (R171). -/
def execLd_A_C (s : State) : Out := copyReg .a .c s
/-- `LD A,D` (R171). -/
def execLd_A_D (s : State) : Out := copyReg .a .d s
/-- `LD A,E` (R171). -/
def execLd_A_E (s : State) : Out := copyReg .a .e s
/-- `LD A,H` (R171). -/
def execLd_A_H (s : State) : Out := copyReg .a .h s
/-- `LD A,L` (R171). -/
def execLd_A_L (s : State) : Out := copyReg .a .l s
/-- `LD A,(HL)` (R173). -/
def execLd_A_atHL (s : State) : Out := loadAt .a s.hl 2 s
/-- `LD A,A` (R171). -/
def execLd_A_A (s : State) : Out := copyReg .a .a s
/-- `LDH (n8),A` (R186). -/
def execLdh_atN8_A (n8 : Byte) (s : State) : Out := storeAt (highPage n8) s.cpu.a 3 s
/-- `LDH (C),A` (R184). -/
def execLdh_atC_A (s : State) : Out := storeAt (highPage s.cpu.c) s.cpu.a 2 s
/-- `LD (n16),A` (R181). -/
def execLd_atN16_A (n16 : Word) (s : State) : Out := storeAt n16 s.cpu.a 4 s
/-- `LDH A,(n8)` (R185). -/
def execLdh_A_atN8 (n8 : Byte) (s : State) : Out := loadAt .a (highPage n8) 3 s
/-- `LDH A,(C)` (R183). -/
def execLdh_A_atC (s : State) : Out := loadAt .a (highPage s.cpu.c) 2 s
/-- `LD A,(n16)` (R180). -/
def execLd_A_atN16 (n16 : Word) (s : State) : Out := loadAt .a n16 4 s

end Sys2Proof.Machine
end

