-- ==== Sys2Proof/Machine/Rotate.lean ====
section
/-! DEFINITION. Rotates, shifts and swaps (spec/44_rotate_shift_bit.md R271 to R290). Every meaning starts with `pc` past the whole instruction. -/

namespace Sys2Proof.Machine

/-- The accumulator forms (R271 to R274). -/
def rotA (op : RotOp) (s : State) : Out :=
  let r := rot op s.cpu.a s.cpu.f.c
  finish 1 ((s.setReg .a r.1).setFlags (rotAFlags r))

/-- The register forms of the extended table (R275 to R289). -/
def rotOf (op : RotOp) (dst : Reg8) (s : State) : Out :=
  let r := rot op (s.reg dst) s.cpu.f.c
  finish 2 ((s.setReg dst r.1).setFlags (rotFlags r))

/-- The `(HL)` forms of the extended table (R276 to R290): one read, one write of the same address. -/
def rotAt (op : RotOp) (s : State) : Out :=
  let r := rot op (memRead s s.hl) s.cpu.f.c
  finish 4 ((memWrite s s.hl r.1).setFlags (rotFlags r))

/-- `RLCA` (R271). -/
def execRlca (s : State) : Out := rotA .rlc s
/-- `RRCA` (R272). -/
def execRrca (s : State) : Out := rotA .rrc s
/-- `RLA` (R273). -/
def execRla (s : State) : Out := rotA .rl s
/-- `RRA` (R274). -/
def execRra (s : State) : Out := rotA .rr s
/-- `RLC B` (R275). -/
def execRlc_B (s : State) : Out := rotOf .rlc .b s
/-- `RLC C` (R275). -/
def execRlc_C (s : State) : Out := rotOf .rlc .c s
/-- `RLC D` (R275). -/
def execRlc_D (s : State) : Out := rotOf .rlc .d s
/-- `RLC E` (R275). -/
def execRlc_E (s : State) : Out := rotOf .rlc .e s
/-- `RLC H` (R275). -/
def execRlc_H (s : State) : Out := rotOf .rlc .h s
/-- `RLC L` (R275). -/
def execRlc_L (s : State) : Out := rotOf .rlc .l s
/-- `RLC (HL)` (R276). -/
def execRlc_atHL (s : State) : Out := rotAt .rlc s
/-- `RLC A` (R275). -/
def execRlc_A (s : State) : Out := rotOf .rlc .a s
/-- `RRC B` (R277). -/
def execRrc_B (s : State) : Out := rotOf .rrc .b s
/-- `RRC C` (R277). -/
def execRrc_C (s : State) : Out := rotOf .rrc .c s
/-- `RRC D` (R277). -/
def execRrc_D (s : State) : Out := rotOf .rrc .d s
/-- `RRC E` (R277). -/
def execRrc_E (s : State) : Out := rotOf .rrc .e s
/-- `RRC H` (R277). -/
def execRrc_H (s : State) : Out := rotOf .rrc .h s
/-- `RRC L` (R277). -/
def execRrc_L (s : State) : Out := rotOf .rrc .l s
/-- `RRC (HL)` (R278). -/
def execRrc_atHL (s : State) : Out := rotAt .rrc s
/-- `RRC A` (R277). -/
def execRrc_A (s : State) : Out := rotOf .rrc .a s
/-- `RL B` (R279). -/
def execRl_B (s : State) : Out := rotOf .rl .b s
/-- `RL C` (R279). -/
def execRl_C (s : State) : Out := rotOf .rl .c s
/-- `RL D` (R279). -/
def execRl_D (s : State) : Out := rotOf .rl .d s
/-- `RL E` (R279). -/
def execRl_E (s : State) : Out := rotOf .rl .e s
/-- `RL H` (R279). -/
def execRl_H (s : State) : Out := rotOf .rl .h s
/-- `RL L` (R279). -/
def execRl_L (s : State) : Out := rotOf .rl .l s
/-- `RL (HL)` (R280). -/
def execRl_atHL (s : State) : Out := rotAt .rl s
/-- `RL A` (R279). -/
def execRl_A (s : State) : Out := rotOf .rl .a s
/-- `RR B` (R281). -/
def execRr_B (s : State) : Out := rotOf .rr .b s
/-- `RR C` (R281). -/
def execRr_C (s : State) : Out := rotOf .rr .c s
/-- `RR D` (R281). -/
def execRr_D (s : State) : Out := rotOf .rr .d s
/-- `RR E` (R281). -/
def execRr_E (s : State) : Out := rotOf .rr .e s
/-- `RR H` (R281). -/
def execRr_H (s : State) : Out := rotOf .rr .h s
/-- `RR L` (R281). -/
def execRr_L (s : State) : Out := rotOf .rr .l s
/-- `RR (HL)` (R282). -/
def execRr_atHL (s : State) : Out := rotAt .rr s
/-- `RR A` (R281). -/
def execRr_A (s : State) : Out := rotOf .rr .a s
/-- `SLA B` (R283). -/
def execSla_B (s : State) : Out := rotOf .sla .b s
/-- `SLA C` (R283). -/
def execSla_C (s : State) : Out := rotOf .sla .c s
/-- `SLA D` (R283). -/
def execSla_D (s : State) : Out := rotOf .sla .d s
/-- `SLA E` (R283). -/
def execSla_E (s : State) : Out := rotOf .sla .e s
/-- `SLA H` (R283). -/
def execSla_H (s : State) : Out := rotOf .sla .h s
/-- `SLA L` (R283). -/
def execSla_L (s : State) : Out := rotOf .sla .l s
/-- `SLA (HL)` (R284). -/
def execSla_atHL (s : State) : Out := rotAt .sla s
/-- `SLA A` (R283). -/
def execSla_A (s : State) : Out := rotOf .sla .a s
/-- `SRA B` (R285). -/
def execSra_B (s : State) : Out := rotOf .sra .b s
/-- `SRA C` (R285). -/
def execSra_C (s : State) : Out := rotOf .sra .c s
/-- `SRA D` (R285). -/
def execSra_D (s : State) : Out := rotOf .sra .d s
/-- `SRA E` (R285). -/
def execSra_E (s : State) : Out := rotOf .sra .e s
/-- `SRA H` (R285). -/
def execSra_H (s : State) : Out := rotOf .sra .h s
/-- `SRA L` (R285). -/
def execSra_L (s : State) : Out := rotOf .sra .l s
/-- `SRA (HL)` (R286). -/
def execSra_atHL (s : State) : Out := rotAt .sra s
/-- `SRA A` (R285). -/
def execSra_A (s : State) : Out := rotOf .sra .a s
/-- `SWAP B` (R287). -/
def execSwap_B (s : State) : Out := rotOf .swap .b s
/-- `SWAP C` (R287). -/
def execSwap_C (s : State) : Out := rotOf .swap .c s
/-- `SWAP D` (R287). -/
def execSwap_D (s : State) : Out := rotOf .swap .d s
/-- `SWAP E` (R287). -/
def execSwap_E (s : State) : Out := rotOf .swap .e s
/-- `SWAP H` (R287). -/
def execSwap_H (s : State) : Out := rotOf .swap .h s
/-- `SWAP L` (R287). -/
def execSwap_L (s : State) : Out := rotOf .swap .l s
/-- `SWAP (HL)` (R288). -/
def execSwap_atHL (s : State) : Out := rotAt .swap s
/-- `SWAP A` (R287). -/
def execSwap_A (s : State) : Out := rotOf .swap .a s
/-- `SRL B` (R289). -/
def execSrl_B (s : State) : Out := rotOf .srl .b s
/-- `SRL C` (R289). -/
def execSrl_C (s : State) : Out := rotOf .srl .c s
/-- `SRL D` (R289). -/
def execSrl_D (s : State) : Out := rotOf .srl .d s
/-- `SRL E` (R289). -/
def execSrl_E (s : State) : Out := rotOf .srl .e s
/-- `SRL H` (R289). -/
def execSrl_H (s : State) : Out := rotOf .srl .h s
/-- `SRL L` (R289). -/
def execSrl_L (s : State) : Out := rotOf .srl .l s
/-- `SRL (HL)` (R290). -/
def execSrl_atHL (s : State) : Out := rotAt .srl s
/-- `SRL A` (R289). -/
def execSrl_A (s : State) : Out := rotOf .srl .a s

end Sys2Proof.Machine
end

