-- ==== Sys2Proof/Machine/Extended.lean ====
section
/-! DEFINITION. The extended table read by its bit fields, for the prefix row alone
(spec/30_encoding.md R142, R144, R149; spec/46_system.md R326). -/

namespace Sys2Proof.Machine

/-- The register a field `r` names; 6 is `(HL)` (R144). -/
def fieldReg (z : Nat) : Option Reg8 :=
  match z with
  | 0 => some .b
  | 1 => some .c
  | 2 => some .d
  | 3 => some .e
  | 4 => some .h
  | 5 => some .l
  | 7 => some .a
  | _ => none

/-- The operation a field `rot` names (R149). -/
def fieldRot (y : Nat) : RotOp :=
  match y with
  | 0 => .rlc
  | 1 => .rrc
  | 2 => .rl
  | 3 => .rr
  | 4 => .sla
  | 5 => .sra
  | 6 => .swap
  | _ => .srl

/-- `execute_extended(op2)` by the fields `x = op2[7:6]`, `y = op2[5:3]`, `z = op2[2:0]`. -/
def executeExtended (op2 : Byte) (s : State) : Out :=
  let x := op2.toNat / 64
  let y := op2.toNat / 8 % 8
  match fieldReg (op2.toNat % 8) with
  | some r =>
    if x = 0 then rotOf (fieldRot y) r s
    else if x = 1 then testReg y r s
    else if x = 2 then resetBitReg y r s
    else setBitReg y r s
  | none =>
    if x = 0 then rotAt (fieldRot y) s
    else if x = 1 then testAtHL y s
    else if x = 2 then resetBitAtHL y s
    else setBitAtHL y s

end Sys2Proof.Machine
end

