-- ==== Sys2Proof/Machine/SystemOps.lean ====
section
/-! DEFINITION. System instructions, the prefix row and the undefined opcodes (spec/46_system.md R321 to R327). Every meaning starts with `pc` past the whole instruction. -/

namespace Sys2Proof.Machine

/-- `HALT` (R322). -/
def haltCpu (s : State) : Out :=
  if s.params.haltBug && !s.cpu.ime && s.irq.pending then finish 1 { s with cpu := { s.cpu with haltBug := true } }
  else finish 1 { s with cpu := { s.cpu with halted := true } }

/-- `STOP` (R323). The address recorded is that of the 0x10 byte (R342), also after a repeated fetch
(notes/assumptions/14.md). -/
def stopCpu (s : State) : Out :=
  if s.cpu.speedArmed then
    finish 1 { s with cpu := { s.cpu with doubleSpeed := !s.cpu.doubleSpeed, speedArmed := false } }
  else raiseFatal (.unimplementedLowPower s.cpu.fetchAddr) s

/-- An undefined opcode (R327). The address recorded is the one the opcode byte was fetched from (R342), also after a
repeated fetch (notes/assumptions/14.md). -/
def undefinedOpcode (op : Byte) (s : State) : Out := raiseFatal (.undefinedOpcode op s.cpu.fetchAddr) s

/-- The prefix byte alone (R326): fetch one more byte and run the extended-table entry it selects. The decoder of
`step` never yields this row, since it reads both bytes at once (notes/assumptions/12.md). -/
def runExtended (s : State) : Out :=
  let b := imm8 s
  executeExtended b.1 b.2

/-- `NOP` (R321). -/
def execNop (s : State) : Out := finish 1 s
/-- `STOP` (R323). -/
def execStop (_pad : Byte) (s : State) : Out := stopCpu s
/-- `HALT` (R322). -/
def execHalt (s : State) : Out := haltCpu s
/-- `PREFIX CB` (R326). -/
def execPrefixCB (s : State) : Out := runExtended s
/-- `ILLEGAL_D3` (R327). -/
def execIllegal_D3 (s : State) : Out := undefinedOpcode 0xD3 s
/-- `ILLEGAL_DB` (R327). -/
def execIllegal_DB (s : State) : Out := undefinedOpcode 0xDB s
/-- `ILLEGAL_DD` (R327). -/
def execIllegal_DD (s : State) : Out := undefinedOpcode 0xDD s
/-- `ILLEGAL_E3` (R327). -/
def execIllegal_E3 (s : State) : Out := undefinedOpcode 0xE3 s
/-- `ILLEGAL_E4` (R327). -/
def execIllegal_E4 (s : State) : Out := undefinedOpcode 0xE4 s
/-- `ILLEGAL_EB` (R327). -/
def execIllegal_EB (s : State) : Out := undefinedOpcode 0xEB s
/-- `ILLEGAL_EC` (R327). -/
def execIllegal_EC (s : State) : Out := undefinedOpcode 0xEC s
/-- `ILLEGAL_ED` (R327). -/
def execIllegal_ED (s : State) : Out := undefinedOpcode 0xED s
/-- `DI` (R324). -/
def execDi (s : State) : Out := finish 1 { s with cpu := { s.cpu with ime := false, imeDelay := 0 } }
/-- `ILLEGAL_F4` (R327). -/
def execIllegal_F4 (s : State) : Out := undefinedOpcode 0xF4 s
/-- `EI` (R325). -/
def execEi (s : State) : Out := finish 1 { s with cpu := { s.cpu with imeDelay := 2 } }
/-- `ILLEGAL_FC` (R327). -/
def execIllegal_FC (s : State) : Out := undefinedOpcode 0xFC s
/-- `ILLEGAL_FD` (R327). -/
def execIllegal_FD (s : State) : Out := undefinedOpcode 0xFD s

end Sys2Proof.Machine
end

