-- ==== Sys2Proof/Machine/Transfer.lean ====
section
/-! DEFINITION. The DMA controller's step (spec/62_dma.md R397, R402, R403). It reads through the bus and writes
`oam` or `vram` directly (spec/20_memory.md R80). -/

namespace Sys2Proof.Machine

/-- The source byte of a transfer at this moment; the address wraps (R402). -/
def sourceByte (s : State) (t : Transfer) : Byte := memRead s (t.src + BitVec.ofNat 16 t.done)

/-- The transfer after `n` more bytes: none once `length` is reached. -/
def Transfer.advance (t : Transfer) (n : Nat) : Option Transfer :=
  if t.done + n = t.length then none else some { t with done := t.done + n }

/-- One byte of an object-memory transfer (R397). -/
def objectMemoryStep (s : State) (t : Transfer) : State :=
  { s with
    oam := s.oam.write t.done (sourceByte s t)
    dma := { s.dma with transfer := t.advance 1 } }

/-- One byte of a general transfer; the destination wraps inside the 8 KiB bank (R402). -/
def generalByte (s : State) (t : Transfer) : State :=
  { s with vram := s.vram.write (vramBank s * 8192 + (t.dst.toNat + t.done) % 8192) (sourceByte s t) }

/-- Two bytes of a general transfer (R402). -/
def generalStep (s : State) (t : Transfer) : State :=
  let s1 := generalByte s t
  let s2 := generalByte s1 { t with done := t.done + 1 }
  { s2 with dma := { s2.dma with transfer := t.advance 2 } }

/-- `dma_step()` (R403). -/
def dmaStep (s : State) : State :=
  match s.dma.transfer with
  | none => s
  | some t =>
    match t.kind with
    | .objectMemory => objectMemoryStep s t
    | .general => generalStep s t

end Sys2Proof.Machine
end

