-- ==== Sys2Proof/Machine/Cycle.lean ====
section
/-! DEFINITION. The CPU's step, the machine cycle, the frame bookkeeping and the host's input
(spec/60_exceptions.md R343, spec/70_reset_and_hazards.md R586, R588). -/

namespace Sys2Proof.Machine

/-! The CPU's share of a cycle (R343). -/

/-- Step 3: the delayed enable (R29). -/
def delayStep (c : Cpu) : Cpu :=
  if c.imeDelay = 0 then c
  else { c with imeDelay := c.imeDelay - 1, ime := if c.imeDelay = 1 then true else c.ime }

/-- The byte at `pc + n`. -/
def codeByte (s : State) (n : Nat) : Byte := memRead s (s.cpu.pc + BitVec.ofNat 16 n)

/-- The instruction step 6 reads. With `halt_bug` the opcode byte is read twice, as opcode and as the byte after it
(R322, R343 step 6). Reads change nothing (R79), so all three bytes may be read whatever the length is
(notes/assumptions/13.md). -/
def fetched (s : State) : Instr :=
  if s.cpu.haltBug then decodeWindow (codeByte s 0) (codeByte s 0) (codeByte s 1)
  else decodeWindow (codeByte s 0) (codeByte s 1) (codeByte s 2)

/-- `pc` after the fetch of the whole instruction: one less than its length with `halt_bug` (R343 step 6). -/
def pcAfterFetch (s : State) : Word :=
  s.cpu.pc + BitVec.ofNat 16 (instrLength (codeByte s 0)) - (if s.cpu.haltBug then 1 else 0)

/-- Step 6: fetch and execute (R343); `a <- pc` is kept in `fetchAddr`, for R342. -/
def fetchExecute (s : State) : Out :=
  exec (fetched s) { s with cpu := { s.cpu with pc := pcAfterFetch s, haltBug := false, fetchAddr := s.cpu.pc } }

/-- Steps 5 and 6: service an interrupt, or fetch and execute (R343). -/
def serviceOrFetch (s : State) : Out :=
  if s.cpu.ime && s.irq.pending then .next (serviceInterrupt s) else fetchExecute s

/-- An instruction boundary: steps 3 to 6 (R343). -/
def boundary (s : State) : Out :=
  let s := { s with cpu := delayStep s.cpu }
  if s.cpu.halted then
    if s.irq.pending then serviceOrFetch { s with cpu := { s.cpu with halted := false } } else .next s
  else serviceOrFetch s

/-- `cpu_step()` (R343). -/
def cpuStep (s : State) : Out :=
  if 0 < s.cpu.cyc then .next { s with cpu := { s.cpu with cyc := s.cpu.cyc - 1 } }
  else if s.dma.stalled then .next s
  else boundary s

/-! The machine cycle (R586). -/

/-- The four agents after the CPU, in their order (R82, R586), and the cycle count. -/
def peripherals (s : State) : State :=
  let s := timerStep (dmaStep (soundStep (videoStep s)))
  { s with frameCycle := s.frameCycle + 1 }

/-- `machine_cycle()` on a state that is not fatal (R586). A fatal condition raised by the CPU abandons the rest of
the cycle (R341). -/
def machineCycle (s : State) : Out :=
  match cpuStep s with
  | .next t => .next (if t.cpu.fatal.isSome then t else peripherals t)
  | .fault f => .fault f
  | .refused r => .refused r

/-! The bookkeeping of `execute` between two machine cycles (R588). -/

/-- After a display enable the frame ends early and white; after 17556 cycles it ends. A fatal state is left alone. -/
def frameBoundary (s : State) : State :=
  if s.cpu.fatal.isSome then s
  else if s.video.frameBlank then
    { s with
      frameBuffer := List.replicate Config.visibleLines (some whiteLine)
      video := { s.video with frameBlank := false }
      frameCycle := 0 }
  else if Config.cyclesPerFrame ≤ s.frameCycle then { s with frameCycle := 0 }
  else s

/-! The host's input (R48, R112, R553). -/

/-- What the host does in the gap before a cycle: the clock moves on, at most one joypad event is applied. -/
def applyEntry (e : CycleInput) (s : State) : State :=
  let s := { s with now := s.now + e.seconds }
  match e.joypad with
  | some j => handleJoypad j s
  | none => s

/-- The next entry of the pending inputs is taken; with none left nothing happens (notes/assumptions/6.md). -/
def applyInput (s : State) : State :=
  match s.inputs with
  | [] => s
  | e :: rest => applyEntry e { s with inputs := rest }

/-- One step of the whole CORE from a state that is not fatal. -/
def liveStep (s : State) : Out :=
  match machineCycle (applyInput s) with
  | .next t => .next (frameBoundary t)
  | .fault f => .fault f
  | .refused r => .refused r

/-! Placing an instruction from outside the machine (notes/assumptions/4.md). -/

/-- The bytes stored from an address on. -/
def placeBytes : State → Word → List Byte → State
  | s, _, [] => s
  | s, a, v :: rest => placeBytes (placeByte s a v) (a + 1) rest

/-- Whether the bytes from an address on read as given. -/
def readsAs : State → Word → List Byte → Bool
  | _, _, [] => true
  | s, a, v :: rest => memRead s a == v && readsAs s (a + 1) rest

/-- The bytes stored where the next instruction is fetched; at 0xC000 (work RAM), with `pc` moved there, if the
addresses at `pc` are not all storage. -/
def placeAtPc (s : State) (bs : List Byte) : State :=
  let t := placeBytes s s.cpu.pc bs
  if readsAs t t.cpu.pc bs then t else placeBytes (s.setPc 0xC000) 0xC000 bs

/-- Whatever would keep the very next step from fetching, taken away: a countdown, a halt, the repeated fetch of
`halt_bug`, a fatal state, a stall, and an interrupt that would be served first. -/
def readyToFetch (s : State) : State :=
  let c := { s.cpu with cyc := 0, halted := false, haltBug := false, fatal := none }
  let c := if (applyInput s).irq.pending then { c with ime := false, imeDelay := 0 } else c
  { s with
    cpu := c
    dma := if s.dma.stalled then { s.dma with transfer := none } else s.dma }

end Sys2Proof.Machine
end

