-- ==== Sys2Proof/Machine/Step.lean ====
section
/-! DEFINITION. The step of the whole CORE (spec/70_reset_and_hazards.md R586, R588; spec/60_exceptions.md R341), and
the placing of one instruction where it fetches (notes/assumptions/4.md). -/

namespace Sys2Proof.Machine

/-- One step: the host's input for the gap before it, one machine cycle, the frame bookkeeping after it
(notes/assumptions/7.md). A fatal CORE never changes state again; that is the terminal fault outcome
(R341, notes/assumptions/8.md). -/
def step (s : State) : Host.Outcome State Fault Refusal :=
  match s.cpu.fatal with
  | some r => .fault (.fatal r)
  | none => liveStep s

/-- `s` with the instruction of an opcode-table word, its operand bytes zero, stored where the next step fetches. -/
def State.withFetchWord (s : State) (nbits w : Nat) : State :=
  placeAtPc (readyToFetch s) (padTo 3 (tableBytes nbits w))

end Sys2Proof.Machine
end

