-- ==== Sys2Proof/Machine/Console.lean ====
section
/-! DEFINITION. What the host does with a whole System: build it from an image, insert a boot image, save and load,
start without a boot image, run a frame (spec/65_cartridge.md R530 to R534, R561, R562; spec/70_reset_and_hazards.md
R570, R573, R588). None of it is a step of the machine. -/

namespace Sys2Proof.Machine

/-! Building the System. -/

/-- The construction-time errors (R531 to R534). -/
inductive RomParseError where
  | unknownCartType | unknownRomSize | unknownRamSize | largeRom
deriving DecidableEq, Repr

/-- What the controller-type byte fixes (R531). -/
structure CartType where
  kind : CartKind
  hasRam : Bool
  hasBattery : Bool
  hasRtc : Bool
deriving DecidableEq, Repr

/-- The code table of R531. -/
def cartTypes : List (Nat × CartType) :=
  [(0x00, ⟨.noMbc, false, false, false⟩), (0x08, ⟨.noMbc, true, false, false⟩), (0x09, ⟨.noMbc, true, true, false⟩),
   (0x01, ⟨.mbc1, false, false, false⟩), (0x02, ⟨.mbc1, true, false, false⟩), (0x03, ⟨.mbc1, true, true, false⟩),
   (0x0F, ⟨.mbc3, false, true, true⟩), (0x10, ⟨.mbc3, true, true, true⟩), (0x11, ⟨.mbc3, false, false, false⟩),
   (0x12, ⟨.mbc3, true, false, false⟩), (0x13, ⟨.mbc3, true, true, false⟩),
   (0x19, ⟨.mbc5, false, false, false⟩), (0x1A, ⟨.mbc5, true, false, false⟩), (0x1B, ⟨.mbc5, true, true, false⟩),
   (0x1C, ⟨.mbc5, false, false, false⟩), (0x1D, ⟨.mbc5, true, false, false⟩), (0x1E, ⟨.mbc5, true, true, false⟩)]

/-- The ROM size of a code (R532). -/
def romSizeOf (code : Nat) : Option Nat := if code ≤ 8 then some (32768 <<< code) else none

/-- The RAM sizes by code (R533). -/
def ramSizes : List (Nat × Nat) := [(0, 0), (2, 8192), (3, 32768), (4, 131072), (5, 65536)]

/-- A header byte; beyond the end of the image it is 0x00 (R530). -/
def headerByte (image : List Byte) (off : Nat) : Nat := (image.getD off 0).toNat

/-- The cartridge of an image, in its reset state, or the first check that fails (R530 to R534, R560, R563). -/
def parseCartridge (image : List Byte) (now : Nat) : Except RomParseError Cart :=
  match cartTypes.lookup (headerByte image 0x147) with
  | none => .error .unknownCartType
  | some t =>
    match romSizeOf (headerByte image 0x148) with
    | none => .error .unknownRomSize
    | some romSize =>
      match ramSizes.lookup (headerByte image 0x149) with
      | none => .error .unknownRamSize
      | some ramSize =>
        if romSize < image.length then .error .largeRom
        else
          .ok { Cart.reset with
            kind := t.kind
            hasRam := t.hasRam
            hasBattery := t.hasBattery
            hasRtc := t.hasRtc
            romSize := romSize
            ramSize := if t.hasRam then ramSize else 0
            rom := Memory.ofBytesFrom 0 image
            rtc := Rtc.reset now }

/-- What the host fixes when it constructs a System, the image apart (R10, R580). -/
structure HostConfig where
  bootRom : List Byte
  overlay : List (Nat × Nat)
  params : Params
  resetRegs : ResetRegs
  now : Nat
deriving DecidableEq, Repr

/-- The array of `n` bytes that begins with `bs`; what is beyond `n` is dropped, what is missing is 0x00. -/
def Memory.ofBytes (n : Nat) (bs : List Byte) : Memory := Memory.ofBytesFrom 0 (bs.take n)

/-- The CPU at construction (R50) with the registers of `RESET_REGS` (R10); the low nibble of `F` is dropped (R23). -/
def Cpu.constructed (r : ResetRegs) : Cpu :=
  { Cpu.reset with
    a := r.a
    f := Flags.ofByte r.f
    b := r.b
    c := r.c
    d := r.d
    e := r.e
    h := r.h
    l := r.l
    sp := r.sp }

/-- The reset state with `RESET_REGS` (R10, R572); cartridge RAM apart, whose size the image gives. -/
def State.constructed (r : ResetRegs) : State :=
  { State.reset with
    cpu := Cpu.constructed r
    vram := Memory.ofBytes 16384 r.vram
    wram := Memory.ofBytes 32768 r.wram
    oam := Memory.ofBytes 160 r.oam
    hram := Memory.ofBytes 127 r.hram
    bgPalette := Memory.ofBytes 64 r.bgPalette
    objPalette := Memory.ofBytes 64 r.objPalette
    waveRam := Memory.ofBytes 16 r.waveRam }

/-- `load_cartridge(image)`: the reset state with the image's cartridge and the host's parameters (R10, R530, R570,
R580). -/
def loadCartridge (c : HostConfig) (image : List Byte) : Except RomParseError State :=
  match parseCartridge image c.now with
  | .error e => .error e
  | .ok cart =>
    .ok { State.constructed c.resetRegs with
      cart := { cart with ram := Memory.ofBytes cart.ramSize c.resetRegs.cartRam }
      boot := ⟨true, Memory.ofBytesFrom 0 c.bootRom, c.overlay⟩
      params := c.params
      now := c.now }

/-- The start without a boot image (R573). The CPU's byte registers are the host's choice: the rule leaves "the
console's register values" open. -/
def launchWithoutBoot (s : State) (enhanced : Bool) (a b c d e h l : Byte) (f : Flags) : State :=
  { s with
    cpu := { s.cpu with a := a, f := f, b := b, c := c, d := d, e := e, h := h, l := l, pc := 0x0100, sp := 0xFFFE }
    boot := { s.boot with mapped := false }
    bus := { s.bus with enhanced := enhanced }
    video := { s.video with lcdc := 0x91 }
    sound := { s.sound with power := true } }

/-! Saving and loading (R561, R562). -/

/-- The clock's part of a save (R561). -/
structure RtcSave where
  elapsed : Nat
  halted : Bool
  carry : Bool
deriving DecidableEq, Repr

/-- A save (R561). -/
structure CartSave where
  ram : List Byte
  rtc : Option RtcSave
deriving DecidableEq, Repr

/-- `Cart.save()` (R561): the payload, and the cartridge, which changes only through `normalise()`. -/
def Cart.save (c : Cart) (now : Nat) : Option CartSave × Cart :=
  if c.hasBattery then
    let r := if c.hasRtc then c.rtc.normalise now else c.rtc
    (some ⟨Memory.bytesFrom c.ram 0 c.ramSize,
      if c.hasRtc then some ⟨r.elapsed now, r.halted, r.carry⟩ else none⟩, { c with rtc := r })
  else (none, c)

/-- The clock of a loaded save (R562). -/
def Rtc.load (r : Rtc) (now : Nat) (v : RtcSave) : Rtc :=
  let r := { r with halted := v.halted, carry := v.carry }
  if v.halted then { r with frozen := v.elapsed } else { r with base := (now : Int) - v.elapsed }

/-- Bytes stored one after another from an offset on. -/
def Memory.store : Memory → Nat → List Byte → Memory
  | m, _, [] => m
  | m, i, v :: rest => Memory.store (m.write i v) (i + 1) rest

/-- `Cart.load_from_save(save)` (R562). -/
def Cart.loadSave (c : Cart) (now : Nat) (v : CartSave) : Cart :=
  let c := { c with ram := Memory.store c.ram 0 (v.ram.take c.ramSize) }
  match v.rtc with
  | some r => if c.hasRtc then { c with rtc := c.rtc.load now r } else c
  | none => c

/-! Running a frame (R588). -/

/-- What `execute()` returns: the cycles run and the state, or the fatal reason and the state. -/
inductive FrameResult where
  | done (cycles : Nat) (s : State)
  | fatal (r : FatalReason) (s : State)
deriving DecidableEq, Repr

/-- The loop of `execute()`, at most `fuel` times round, `n` cycles already run (R588). -/
def executeLoop : Nat → Nat → State → FrameResult
  | 0, n, s => .done n s
  | fuel + 1, n, s =>
    if Config.cyclesPerFrame ≤ s.frameCycle then .done n { s with frameCycle := 0 }
    else
      match s.cpu.fatal with
      | some r => .fatal r s
      | none =>
        match machineCycle s with
        | .next t =>
          match t.cpu.fatal with
          | some r => .fatal r t
          | none =>
            if t.video.frameBlank then .done (n + 1) (frameBoundary t) else executeLoop fuel (n + 1) t
        | .fault (.fatal r) => .fatal r s
        | .refused _ => .done n s

/-- `System.execute()` with no host event inside the frame (R588). -/
def execute (s : State) : FrameResult := executeLoop (Config.cyclesPerFrame + 1) 0 s

end Sys2Proof.Machine
end

