-- ==== Sys2Proof/Safety.lean ====
section
/-! DEFINITION. What counts as a safe run, and the invariants of the state that every step keeps. -/

namespace Sys2Proof.Machine

/-! Safe runs (spec/60_exceptions.md R341: "the program never reaches a fatal state" is what a claim may say). -/

/-- The CORE runs: no fatal condition has been raised. -/
abbrev Live (s : State) : Prop := s.cpu.fatal = none

/-- `n` more steps from `s` all answer a next state, and none of them raises a fatal condition. -/
def SafeFor : Nat → State → Prop
  | 0, s => Live s
  | n + 1, s => Live s ∧ ∃ t, step s = .next t ∧ SafeFor n t

/-! The invariant, in parts. -/

/-- A storage array in its one form, with no entry beyond its size (R36). -/
abbrev ArrayOk (n : Nat) (m : Memory) : Prop := m.wf = true ∧ m.below n = true

/-- Every storage array (R36). -/
abbrev ArraysOk (s : State) : Prop :=
  ArrayOk 16384 s.vram ∧ ArrayOk 32768 s.wram ∧ ArrayOk 160 s.oam ∧ ArrayOk 127 s.hram ∧
    ArrayOk 64 s.bgPalette ∧ ArrayOk 64 s.objPalette ∧ ArrayOk 16 s.waveRam ∧
    ArrayOk s.cart.ramSize s.cart.ram

/-- `ime_delay` in {0, 1, 2} (R29), `cyc` at most 5 (R31, R596: the longest instruction costs 6), `halt_bug` only
under the parameter `HALT_BUG` (R30). -/
abbrev CpuOk (s : State) : Prop :=
  s.cpu.imeDelay ≤ 2 ∧ s.cpu.cyc ≤ 5 ∧ (s.cpu.haltBug = true → s.params.haltBug = true)

/-- The cycles a mode lasts (R8, R425). -/
def modeBudget : VideoMode → Nat
  | .oamSearch => Config.oamSearchCycles
  | .transfer => Config.transferCycles
  | .hBlank => Config.hBlankCycles
  | .vBlank => Config.vBlankLineCycles

/-- While the display is off the controller is in its initial state (R432). -/
abbrev OffOk (v : Video) : Prop :=
  v.on = false →
    v.ly = 0 ∧ v.mode = .oamSearch ∧ v.modeCycles = 0 ∧ v.windowLine = 0 ∧ v.statLinePrev = false

/-- `ly` in 0..153, 144 to 153 exactly in VBlank; `mode_cycles` below the mode's budget; bit 6 of `bcps` and `ocps`
0; no white frame pending between two steps; the initial state while off (R42, R122, R425, R432, R588). -/
abbrev VideoOk (v : Video) : Prop :=
  v.ly < Config.linesPerFrame ∧ (v.mode = .vBlank ↔ Config.visibleLines ≤ v.ly) ∧
    v.modeCycles < modeBudget v.mode ∧ bit v.bcps 6 = false ∧ bit v.ocps 6 = false ∧ v.frameBlank = false ∧
    OffOk v

/-- 144 lines, each unwritten or 160 pixels, and a frame shorter than its length (R47, R588). -/
abbrev FrameOk (s : State) : Prop :=
  s.frameBuffer.length = Config.visibleLines ∧
    (∀ row ∈ s.frameBuffer, (row.map List.length).getD Config.screenWidth = Config.screenWidth) ∧
    s.frameCycle < Config.cyclesPerFrame

/-- Volumes 0 to 15, positions and counters in range, and `ch.enabled` implies `dac(ch)` (R43, R504). -/
abbrev SoundOk (s : Sound) : Prop :=
  s.ch1.env.volume ≤ 15 ∧ s.ch2.env.volume ≤ 15 ∧ s.ch4.env.volume ≤ 15 ∧
    s.ch1.dutyPos < 8 ∧ s.ch2.dutyPos < 8 ∧ s.ch3.wavePos < 32 ∧ s.seqCounter < 8 ∧
    s.ch1.length ≤ 64 ∧ s.ch2.length ≤ 64 ∧ s.ch3.length ≤ 256 ∧ s.ch4.length ≤ 64 ∧
    (s.ch1.enabled = true → s.ch1.env.dac = true) ∧ (s.ch2.enabled = true → s.ch2.env.dac = true) ∧
    (s.ch3.enabled = true → s.ch3.dacOn = true) ∧ (s.ch4.enabled = true → s.ch4.env.dac = true)

/-- How many values the ROM bank register takes (R540, R546, R549). -/
def romBankLimit : CartKind → Nat
  | .noMbc => 2
  | .mbc1 => 32
  | .mbc3 => 128
  | .mbc5 => 512

/-- How many values the RAM bank register takes (R543, R547, R550). -/
def ramBankLimit : CartKind → Nat
  | .noMbc => 1
  | .mbc1 => 4
  | .mbc3 => 4
  | .mbc5 => 16

/-- The bank registers in their widths, the clock snapshot's fields in a byte and nine bits of days; no clock field selected without a clock
(R44, R45, R556). -/
abbrev CartOk (c : Cart) : Prop :=
  c.romBank < romBankLimit c.kind ∧ c.ramBank < ramBankLimit c.kind ∧
    (c.rtc.select.isSome = true → c.hasRtc = true) ∧
    c.rtc.latched.s < 256 ∧ c.rtc.latched.m < 256 ∧ c.rtc.latched.h < 256 ∧ c.rtc.latched.d < 512

/-- A transfer in progress has bytes left, and a general one moves two at a time (R396, R401, R402). -/
abbrev TransferOk (t : Transfer) : Prop :=
  t.done < t.length ∧
    (t.kind = .objectMemory → t.length = 160) ∧
    (t.kind = .general → t.length ≤ 2048 ∧ t.length % 16 = 0 ∧ t.done % 2 = 0)

/-- The DMA controller (R40). -/
abbrev DmaOk (d : Dma) : Prop := ∀ t ∈ d.transfer, TransferOk t

/-- The timer: every step adds 4, a write clears (R382, R386). -/
abbrev TimerOk (t : Timer) : Prop := t.divCounter.toNat % 4 = 0

/-- The whole invariant. -/
abbrev Inv (s : State) : Prop :=
  ArraysOk s ∧ CpuOk s ∧ VideoOk s.video ∧ FrameOk s ∧ SoundOk s.sound ∧ CartOk s.cart ∧ DmaOk s.dma ∧
    TimerOk s.timer

end Sys2Proof.Machine
end

