-- ==== Sys2Proof/WellFormed.lean ====
section
/-! DEFINITION. Which terms of `Instr` are whole instructions. -/

namespace Sys2Proof

/-- The immediates are bit vectors of their exact width (R152) and every register, pair, condition and bit
index is a constructor, so one check is left: the prefix row is "not an instruction" (R326), it only begins
one. -/
def WellFormed (i : Instr) : Bool := i != .prefixCB

end Sys2Proof
end

