-- ==== Sys2Proof/Certificates/Slice0/Obligations.lean ====
section
/-! DEFINITION. The statements for the provers, and the few words they are written in. -/

namespace Sys2Proof

/-! The codes of the encoding fields (spec/30_encoding.md R144 to R149). -/

/-- The field `r` (R144). -/
def Reg8.code : Reg8 → Nat
  | .b => 0 | .c => 1 | .d => 2 | .e => 3 | .h => 4 | .l => 5 | .a => 7

/-- The field `rr` (R145). -/
def Pair.code : Pair → Nat
  | .bc => 0 | .de => 1 | .hl => 2 | .sp => 3

/-- The field `rr2` (R146). -/
def StackPair.code : StackPair → Nat
  | .bc => 0 | .de => 1 | .hl => 2 | .af => 3

/-- The field `cc` (R147). -/
def Cond.code : Cond → Nat
  | .nz => 0 | .z => 1 | .nc => 2 | .c => 3

/-- The ALU operation field (R148). -/
def AluOp.code : AluOp → Nat
  | .add => 0 | .adc => 1 | .sub => 2 | .sbc => 3 | .and => 4 | .xor => 5 | .or => 6 | .cp => 7

/-- The operation field of the extended table (R149). -/
def RotOp.code : RotOp → Nat
  | .rlc => 0 | .rrc => 1 | .rl => 2 | .rr => 3 | .sla => 4 | .sra => 5 | .swap => 6 | .srl => 7

/-- An opcode byte as a number. -/
def opByte (n : Nat) : Byte := BitVec.ofNat 8 n

namespace Machine

/-- `i` at `s` answers a next state: `t`, with the countdown of an instruction of cost `n` (R31). -/
def Ends (i : Instr) (s : State) (n : Nat) (t : State) : Prop :=
  exec i s = .next { t with cpu := { t.cpu with cyc := n - 1 } }

/-- The right operand of an 8-bit ALU instruction (R155, R156). -/
inductive ByteOperand where
  | reg (r : Reg8)
  | atHL
  | imm (n : Byte)
deriving DecidableEq, Repr

/-- The operand's value. -/
def ByteOperand.value (s : State) : ByteOperand → Byte
  | .reg r => s.reg r
  | .atHL => memRead s s.hl
  | .imm n => n

/-- The cost of an ALU instruction with the operand (R217 to R219). -/
def ByteOperand.cost : ByteOperand → Nat
  | .reg _ => 1
  | .atHL => 2
  | .imm _ => 2

/-- The ALU instruction with the operand. -/
def ByteOperand.instr (op : AluOp) : ByteOperand → Instr
  | .reg r => .aluReg op r
  | .atHL => .aluAtHL op
  | .imm n => .aluImm op n

/-- Its bytes (R155, R156). -/
def ByteOperand.bytes (op : AluOp) : ByteOperand → List Byte
  | .reg r => [opByte (0x80 + 8 * op.code + r.code)]
  | .atHL => [opByte (0x80 + 8 * op.code + 6)]
  | .imm n => [opByte (0xC6 + 8 * op.code), n]

/-- Nothing but `A`, the flags and the countdown differs between `s` and `t`. -/
def OnlyAluState (n : Nat) (s t : State) : Prop :=
  t = { s with cpu := { s.cpu with a := t.cpu.a, f := t.cpu.f, cyc := n - 1 } }

/-- Bit by bit, what each one-bit operation makes of `v` (R270). -/
def RotatedBits (op : RotOp) (v : Byte) (cin : Bool) (w : Byte) : Prop :=
  match op with
  | .rlc => ∀ i < 8, bit w i = bit v ((i + 7) % 8)
  | .rrc => ∀ i < 8, bit w i = bit v ((i + 1) % 8)
  | .rl => bit w 0 = cin ∧ ∀ i < 7, bit w (i + 1) = bit v i
  | .rr => bit w 7 = cin ∧ ∀ i < 7, bit w i = bit v (i + 1)
  | .sla => bit w 0 = false ∧ ∀ i < 7, bit w (i + 1) = bit v i
  | .sra => bit w 7 = bit v 7 ∧ ∀ i < 7, bit w i = bit v (i + 1)
  | .swap => ∀ i < 8, bit w i = bit v ((i + 4) % 8)
  | .srl => bit w 7 = false ∧ ∀ i < 7, bit w i = bit v (i + 1)

/-- The carry each one-bit operation gives (R270). -/
def rotCarry (op : RotOp) (v : Byte) : Bool :=
  match op with
  | .rlc | .rl | .sla => bit v 7
  | .rrc | .rr | .sra | .srl => bit v 0
  | .swap => false

/-- What `push16(v)` leaves, written out (R16). -/
def pushed (s : State) (v : Word) : State :=
  memWrite ((memWrite (s.setSp (s.cpu.sp - 1)) (s.cpu.sp - 1) (hiByte v)).setSp (s.cpu.sp - 2)) (s.cpu.sp - 2)
    (loByte v)

/-- The word `pop16()` gives (R16). -/
def popped (s : State) : Word := joinBytes (memRead s (s.cpu.sp + 1)) (memRead s s.cpu.sp)

/-- A location that is a plain byte of a storage array. -/
def isStorage : Location → Bool
  | .vram _ | .cartRam _ | .wram _ | .oam _ | .waveRam _ | .hram _ => true
  | _ => false

/-- The two bytes below `sp` are two different bytes of storage. -/
def StackOk (s : State) : Prop :=
  isStorage (locate s (s.cpu.sp - 1)) = true ∧ isStorage (locate s (s.cpu.sp - 2)) = true ∧
    locate s (s.cpu.sp - 1) ≠ locate s (s.cpu.sp - 2)

/-- The addresses an instruction stores a byte to, in terms of the state it starts in (spec/20_memory.md R77). -/
def storeAddresses (i : Instr) (s : State) : List Word :=
  match i with
  | .ld_atHLI_A | .ld_atHLD_A | .inc_atHL | .dec_atHL | .ld_atHL_n8 _ | .ld_atHL_B | .ld_atHL_C
  | .ld_atHL_D | .ld_atHL_E | .ld_atHL_H | .ld_atHL_L | .ld_atHL_A | .rlc_atHL | .rrc_atHL | .rl_atHL
  | .rr_atHL | .sla_atHL | .sra_atHL | .swap_atHL | .srl_atHL | .res_0_atHL | .res_1_atHL | .res_2_atHL
  | .res_3_atHL | .res_4_atHL | .res_5_atHL | .res_6_atHL | .res_7_atHL | .set_0_atHL | .set_1_atHL
  | .set_2_atHL | .set_3_atHL | .set_4_atHL | .set_5_atHL | .set_6_atHL | .set_7_atHL => [s.hl]
  | .ld_atBC_A => [s.pair .bc]
  | .ld_atDE_A => [s.pair .de]
  | .ld_atN16_A a => [a]
  | .ldh_atC_A => [highPage s.cpu.c]
  | .ldh_atN8_A n => [highPage n]
  | .ld_atN16_SP a => [a, a + 1]
  | .push_BC | .rst_00 | .call_n16 _ | .rst_08 | .push_DE | .rst_10 | .rst_18 | .push_HL | .rst_20
  | .rst_28 | .push_AF | .rst_30 | .rst_38 => [s.cpu.sp - 1, s.cpu.sp - 2]
  | .call_NZ_n16 _ => if s.cond .nz then [s.cpu.sp - 1, s.cpu.sp - 2] else []
  | .call_Z_n16 _ => if s.cond .z then [s.cpu.sp - 1, s.cpu.sp - 2] else []
  | .call_NC_n16 _ => if s.cond .nc then [s.cpu.sp - 1, s.cpu.sp - 2] else []
  | .call_C_n16 _ => if s.cond .c then [s.cpu.sp - 1, s.cpu.sp - 2] else []
  | _ => []

/-- The number of a clock field (R556). -/
def RtcField.index : RtcField → Nat
  | .seconds => 0 | .minutes => 1 | .hours => 2 | .dayLow => 3 | .dayHigh => 4

/-- What an instruction does to one flag: the entries of the table of R215. -/
inductive FlagEffect where
  | result | zero | one | kept
deriving DecidableEq, Repr

/-- A row of the table of R215. -/
structure FlagRow where
  z : FlagEffect
  n : FlagEffect
  h : FlagEffect
  c : FlagEffect
deriving DecidableEq, Repr

/-- The row of R215 an instruction falls under, by its encoding; an instruction not in the table changes no flag. -/
def flagRow (i : Instr) : FlagRow :=
  let bs := (encode i).map BitVec.toNat
  let op := bs.headD 0
  let ext := bs.getD 1 0
  let y := op / 8 % 8
  let z := op % 8
  if op = 0xCB then
    if ext / 8 = 6 then ⟨.result, .zero, .zero, .zero⟩
    else if ext < 0x40 then ⟨.result, .zero, .zero, .result⟩
    else if ext < 0x80 then ⟨.result, .zero, .one, .kept⟩
    else ⟨.kept, .kept, .kept, .kept⟩
  else if op / 64 = 2 ∨ (op / 64 = 3 ∧ z = 6) then
    if y < 2 then ⟨.result, .zero, .result, .result⟩
    else if y = 4 then ⟨.result, .zero, .one, .zero⟩
    else if y = 5 ∨ y = 6 then ⟨.result, .zero, .zero, .zero⟩
    else ⟨.result, .one, .result, .result⟩
  else if op < 0x40 ∧ z = 4 then ⟨.result, .zero, .result, .kept⟩
  else if op < 0x40 ∧ z = 5 then ⟨.result, .one, .result, .kept⟩
  else if op < 0x20 ∧ z = 7 then ⟨.zero, .zero, .zero, .result⟩
  else if op = 0x27 then ⟨.result, .kept, .zero, .result⟩
  else if op = 0x2F then ⟨.kept, .one, .one, .kept⟩
  else if op = 0x37 then ⟨.kept, .zero, .zero, .one⟩
  else if op = 0x3F then ⟨.kept, .zero, .zero, .result⟩
  else if op < 0x40 ∧ op % 16 = 9 then ⟨.kept, .zero, .result, .result⟩
  else if op = 0xE8 ∨ op = 0xF8 then ⟨.zero, .zero, .result, .result⟩
  else if op = 0xF1 then ⟨.result, .result, .result, .result⟩
  else ⟨.kept, .kept, .kept, .kept⟩

/-- A flag before and after obeys an entry of the table. -/
def FlagObeys (e : FlagEffect) (before after : Bool) : Prop :=
  match e with
  | .result => True
  | .zero => after = false
  | .one => after = true
  | .kept => after = before

/-- `BCD(x)` for `x` below 100. -/
def bcd (x : Nat) : Byte := BitVec.ofNat 8 (16 * (x / 10) + x % 10)

/-- `cpu_step` gets to the instruction boundary: nothing is counting down, nothing stalls (R343 steps 1 and 2). -/
def AtBoundary (s : State) : Prop := s.cpu.cyc = 0 ∧ s.dma.stalled = false

/-- `ime` as step 5 sees it, after the delayed enable of step 3 (R343). -/
def imeSeen (s : State) : Bool := s.cpu.ime || decide (s.cpu.imeDelay = 1)

/-- The timer's period in machine cycles (R385). -/
def timerPeriod (tac : BitVec 3) : Nat :=
  match tac.toNat % 4 with
  | 0 => 256
  | 1 => 4
  | 2 => 16
  | _ => 64

end Machine

end Sys2Proof

open Sys2Proof Sys2Proof.Machine

/-! ## Encoding -/

/-- Words written out from the encodings of the rules decode to the instructions they stand for. -/
def Obligations.WrittenWordsDecode : Prop :=
  decode [0x78] = .ok (.ld_A_B, []) ∧ decode [0x36, 0x7F] = .ok (.ld_atHL_n8 0x7F, []) ∧
    decode [0xFA, 0x44, 0xFF] = .ok (.ld_A_atN16 0xFF44, []) ∧
    decode [0x08, 0x00, 0xC1] = .ok (.ld_atN16_SP 0xC100, []) ∧ decode [0xD1] = .ok (.pop_DE, []) ∧
    decode [0xCE, 0x3B] = .ok (.adc_A_n8 0x3B, []) ∧ decode [0x39] = .ok (.add_HL_SP, []) ∧
    decode [0xCB, 0x2F] = .ok (.sra_A, []) ∧ decode [0xCB, 0x7F] = .ok (.bit_7_A, []) ∧
    decode [0xDC, 0x00, 0x40] = .ok (.call_C_n16 0x4000, []) ∧ decode [0x10, 0x00] = .ok (.stop 0x00, []) ∧
    decode [0xCB, 0xCB] = .ok (.set_1_E, [])

/-- Decoding what the encoder writes gives the instruction back, whatever bytes follow, with every operand at every
value. -/
def Obligations.DecodeOfEncodeIsTheInstruction : Prop :=
  ∀ (i : Instr) (rest : List Byte), WellFormed i = true → decode (encode i ++ rest) = .ok (i, rest)

/-- Every decoded byte string is the encoding of its instruction and the bytes left over: no byte has two
readings. -/
def Obligations.EncodeOfDecodedIsTheBytes : Prop :=
  ∀ (bs : List Byte) (i : Instr) (rest : List Byte), decode bs = .ok (i, rest) → encode i ++ rest = bs

/-! ## 8-bit loads -/

/-- The loads into a byte register: the encodings by their fields, and the whole next state. -/
def Obligations.LoadsPutTheSourceByte : Prop :=
  ∀ s : State,
    (∀ dst r : Reg8, encode (.ldRegReg dst r) = [opByte (0x40 + 8 * dst.code + r.code)] ∧
      Ends (.ldRegReg dst r) s 1 (s.setReg dst (s.reg r))) ∧
    (∀ (dst : Reg8) (n : Byte), encode (.ldRegImm dst n) = [opByte (0x06 + 8 * dst.code), n] ∧
      Ends (.ldRegImm dst n) s 2 (s.setReg dst n)) ∧
    (∀ dst : Reg8, encode (.ldRegAtHL dst) = [opByte (0x46 + 8 * dst.code)] ∧
      Ends (.ldRegAtHL dst) s 2 (s.setReg dst (memRead s s.hl))) ∧
    (encode .ld_A_atBC = [0x0A] ∧ Ends .ld_A_atBC s 2 (s.setReg .a (memRead s (joinBytes s.cpu.b s.cpu.c)))) ∧
    (encode .ld_A_atDE = [0x1A] ∧ Ends .ld_A_atDE s 2 (s.setReg .a (memRead s (joinBytes s.cpu.d s.cpu.e)))) ∧
    (∀ n : Word, encode (.ld_A_atN16 n) = [0xFA, loByte n, hiByte n] ∧
      Ends (.ld_A_atN16 n) s 4 (s.setReg .a (memRead s n))) ∧
    (encode .ldh_A_atC = [0xF2] ∧ Ends .ldh_A_atC s 2 (s.setReg .a (memRead s (highPage s.cpu.c)))) ∧
    (∀ n : Byte, encode (.ldh_A_atN8 n) = [0xF0, n] ∧
      Ends (.ldh_A_atN8 n) s 3 (s.setReg .a (memRead s (highPage n))))

/-- The byte stores: the encodings by their fields, the address stored to, the whole next state; a high-page address is
`0xFF00` plus the offset as a number, so it never leaves the page. -/
def Obligations.StoresWriteTheByte : Prop :=
  ∀ s : State,
    (∀ r : Reg8, encode (.ldAtHLReg r) = [opByte (0x70 + r.code)] ∧
      Ends (.ldAtHLReg r) s 2 (memWrite s s.hl (s.reg r))) ∧
    (∀ n : Byte, encode (.ld_atHL_n8 n) = [0x36, n] ∧ Ends (.ld_atHL_n8 n) s 3 (memWrite s s.hl n)) ∧
    (encode .ld_atBC_A = [0x02] ∧ Ends .ld_atBC_A s 2 (memWrite s (joinBytes s.cpu.b s.cpu.c) s.cpu.a)) ∧
    (encode .ld_atDE_A = [0x12] ∧ Ends .ld_atDE_A s 2 (memWrite s (joinBytes s.cpu.d s.cpu.e) s.cpu.a)) ∧
    (∀ n : Word, encode (.ld_atN16_A n) = [0xEA, loByte n, hiByte n] ∧
      Ends (.ld_atN16_A n) s 4 (memWrite s n s.cpu.a)) ∧
    (encode .ldh_atC_A = [0xE2] ∧ Ends .ldh_atC_A s 2 (memWrite s (highPage s.cpu.c) s.cpu.a)) ∧
    (∀ n : Byte, encode (.ldh_atN8_A n) = [0xE0, n] ∧
      Ends (.ldh_atN8_A n) s 3 (memWrite s (highPage n) s.cpu.a)) ∧
    (∀ off : Byte, (highPage off).toNat = 0xFF00 + off.toNat)

/-- The four forms that step `HL`: the access is at the old `HL`, then `HL` moves by one and no flag changes. -/
def Obligations.PostStepLoadsAndStores : Prop :=
  ∀ s : State,
    (encode .ld_atHLI_A = [0x22] ∧ Ends .ld_atHLI_A s 2 ((memWrite s s.hl s.cpu.a).setPair .hl (s.hl + 1))) ∧
    (encode .ld_atHLD_A = [0x32] ∧ Ends .ld_atHLD_A s 2 ((memWrite s s.hl s.cpu.a).setPair .hl (s.hl - 1))) ∧
    (encode .ld_A_atHLI = [0x2A] ∧ Ends .ld_A_atHLI s 2 ((s.setReg .a (memRead s s.hl)).setPair .hl (s.hl + 1))) ∧
    (encode .ld_A_atHLD = [0x3A] ∧ Ends .ld_A_atHLD s 2 ((s.setReg .a (memRead s s.hl)).setPair .hl (s.hl - 1)))

/-! ## 16-bit loads and the stack -/

/-- The 16-bit loads that touch no flag. -/
def Obligations.SixteenBitLoads : Prop :=
  ∀ s : State,
    (∀ (p : Pair) (n : Word), encode (.ldPairImm p n) = [opByte (0x01 + 16 * p.code), loByte n, hiByte n] ∧
      Ends (.ldPairImm p n) s 3 (s.setPair p n)) ∧
    (∀ n : Word, encode (.ld_atN16_SP n) = [0x08, loByte n, hiByte n] ∧
      Ends (.ld_atN16_SP n) s 5 (memWrite (memWrite s n (loByte s.cpu.sp)) (n + 1) (hiByte s.cpu.sp))) ∧
    (encode .ld_SP_HL = [0xF9] ∧ Ends .ld_SP_HL s 2 (s.setSp (joinBytes s.cpu.h s.cpu.l)))

/-- A pair is not separate state: writing a pair writes its two byte registers, and reading it joins them. The low nibble
of `F` is always zero: writing a byte to `F` keeps its high nibble alone. -/
def Obligations.PairsAndTheFlagByte : Prop :=
  ∀ (s : State) (v : Word) (x y : Byte),
    (s.setPair .bc v = (s.setReg .b (hiByte v)).setReg .c (loByte v)) ∧
    (s.setPair .de v = (s.setReg .d (hiByte v)).setReg .e (loByte v)) ∧
    (s.setPair .hl v = (s.setReg .h (hiByte v)).setReg .l (loByte v)) ∧
    (((s.setReg .b x).setReg .c y).pair .bc).toNat = x.toNat * 256 + y.toNat ∧
    (((s.setReg .d x).setReg .e y).pair .de).toNat = x.toNat * 256 + y.toNat ∧
    (((s.setReg .h x).setReg .l y).pair .hl).toNat = x.toNat * 256 + y.toNat ∧
    s.stackPair .af = joinBytes s.cpu.a s.cpu.f.toByte ∧
    (∀ f : Flags, f.toByte &&& 0x0F = 0) ∧ (Flags.ofByte x).toByte = x &&& 0xF0 ∧
    (s.setStackPair .af v = (s.setReg .a (hiByte v)).setFlags (Flags.ofByte (loByte v))) ∧
    (s.setStackPair .af v).stackPair .af = v &&& 0xFFF0

/-- `PUSH` writes the two bytes below `sp`; `POP` reads the two bytes at `sp`; `POP AF` drops bits 3:0. -/
def Obligations.PushAndPop : Prop :=
  ∀ s : State,
    (∀ p : StackPair, encode (.pushPair p) = [opByte (0xC5 + 16 * p.code)] ∧
      Ends (.pushPair p) s 4 (pushed s (s.stackPair p))) ∧
    (encode .pop_BC = [0xC1] ∧ Ends .pop_BC s 3 ((s.setSp (s.cpu.sp + 2)).setPair .bc (popped s))) ∧
    (encode .pop_DE = [0xD1] ∧ Ends .pop_DE s 3 ((s.setSp (s.cpu.sp + 2)).setPair .de (popped s))) ∧
    (encode .pop_HL = [0xE1] ∧ Ends .pop_HL s 3 ((s.setSp (s.cpu.sp + 2)).setPair .hl (popped s))) ∧
    (encode .pop_AF = [0xF1] ∧
      Ends .pop_AF s 3 (((s.setSp (s.cpu.sp + 2)).setReg .a (hiByte (popped s))).setFlags
        ⟨bit (loByte (popped s)) 7, bit (loByte (popped s)) 6, bit (loByte (popped s)) 5,
          bit (loByte (popped s)) 4⟩))

/-- On a stack of two different storage bytes: what is pushed is what is popped, and a call returns to the
instruction after it. `AF` takes back only what `AF` pushed, since `F` has four bits. -/
def Obligations.StackRoundTrip : Prop :=
  ∀ s : State, ArraysOk s → StackOk s →
    (∀ p q : StackPair, (q = .af → p = .af) →
      ∃ t u, exec (.pushPair p) s = .next t ∧ exec (.popPair q) t = .next u ∧
        u.stackPair q = s.stackPair p ∧ u.cpu.sp = s.cpu.sp) ∧
    (∀ n : Word, ∃ t u, exec (.call_n16 n) s = .next t ∧ exec .ret t = .next u ∧ t.cpu.pc = n ∧
      u.cpu.pc = s.cpu.pc ∧ u.cpu.sp = s.cpu.sp)

/-! ## 8-bit arithmetic and logic -/

/-- `ADD` and `ADC`, all operand forms: the sum modulo 256 and the carries out of bits 3 and 7, in natural numbers;
nothing else changes. -/
def Obligations.AddSetsSumAndCarries : Prop :=
  ∀ (s : State) (o : ByteOperand) (withCarry : Bool),
    let op : AluOp := if withCarry then .adc else .add
    let a := s.cpu.a.toNat
    let x := (o.value s).toNat
    let c := if withCarry && s.cpu.f.c then 1 else 0
    encode (o.instr op) = o.bytes op ∧
      ∃ t, exec (o.instr op) s = .next t ∧ OnlyAluState o.cost s t ∧
        t.cpu.a.toNat = (a + x + c) % 256 ∧ (t.cpu.f.z = true ↔ (a + x + c) % 256 = 0) ∧ t.cpu.f.n = false ∧
        (t.cpu.f.h = true ↔ 16 ≤ a % 16 + x % 16 + c) ∧ (t.cpu.f.c = true ↔ 256 ≤ a + x + c)

/-- `SUB`, `SBC` and `CP`, all operand forms: the difference modulo 256 and the borrows, in integers; `CP` keeps
`A`; nothing else changes. -/
def Obligations.SubtractSetsDifferenceAndBorrows : Prop :=
  ∀ (s : State) (o : ByteOperand) (op : AluOp), op = .sub ∨ op = .sbc ∨ op = .cp →
    let a := s.cpu.a.toNat
    let x := (o.value s).toNat
    let c := if op = .sbc ∧ s.cpu.f.c = true then 1 else 0
    let r : Int := ((a : Int) - x - c) % 256
    encode (o.instr op) = o.bytes op ∧
      ∃ t, exec (o.instr op) s = .next t ∧ OnlyAluState o.cost s t ∧
        (t.cpu.a.toNat : Int) = (if op = .cp then (a : Int) else r) ∧ (t.cpu.f.z = true ↔ r = 0) ∧
        t.cpu.f.n = true ∧ (t.cpu.f.h = true ↔ a % 16 < x % 16 + c) ∧ (t.cpu.f.c = true ↔ a < x + c)

/-- `AND`, `XOR` and `OR`, all operand forms: bit by bit; `H` is forced to 1 by `AND` and to 0 by the others. -/
def Obligations.LogicActsBitwise : Prop :=
  ∀ (s : State) (o : ByteOperand) (op : AluOp), op = .and ∨ op = .xor ∨ op = .or →
    let x := o.value s
    encode (o.instr op) = o.bytes op ∧
      ∃ t, exec (o.instr op) s = .next t ∧ OnlyAluState o.cost s t ∧
        (∀ i < 8, bit t.cpu.a i =
          (if op = .and then bit s.cpu.a i && bit x i
           else if op = .xor then bit s.cpu.a i != bit x i else bit s.cpu.a i || bit x i)) ∧
        (t.cpu.f.z = true ↔ t.cpu.a = 0) ∧ t.cpu.f.n = false ∧ (t.cpu.f.h = true ↔ op = .and) ∧
        t.cpu.f.c = false

/-- 8-bit `INC` and `DEC`, on a register and on the byte at `HL`: the value modulo 256, `Z N H` from it, `C` kept;
nothing else changes. -/
def Obligations.IncrementDecrementByte : Prop :=
  ∀ s : State,
    (∀ r : Reg8, encode (.incReg r) = [opByte (0x04 + 8 * r.code)] ∧
      ∃ v : Byte, v.toNat = ((s.reg r).toNat + 1) % 256 ∧
        Ends (.incReg r) s 1 ((s.setReg r v).setFlags
          ⟨decide (v = 0), false, decide ((s.reg r).toNat % 16 = 15), s.cpu.f.c⟩)) ∧
    (encode .inc_atHL = [0x34] ∧
      ∃ v : Byte, v.toNat = ((memRead s s.hl).toNat + 1) % 256 ∧
        Ends .inc_atHL s 3 ((memWrite s s.hl v).setFlags
          ⟨decide (v = 0), false, decide ((memRead s s.hl).toNat % 16 = 15), s.cpu.f.c⟩)) ∧
    (∀ r : Reg8, encode (.decReg r) = [opByte (0x05 + 8 * r.code)] ∧
      ∃ v : Byte, v.toNat = ((s.reg r).toNat + 255) % 256 ∧
        Ends (.decReg r) s 1 ((s.setReg r v).setFlags
          ⟨decide (v = 0), true, decide ((s.reg r).toNat % 16 = 0), s.cpu.f.c⟩)) ∧
    (encode .dec_atHL = [0x35] ∧
      ∃ v : Byte, v.toNat = ((memRead s s.hl).toNat + 255) % 256 ∧
        Ends .dec_atHL s 3 ((memWrite s s.hl v).setFlags
          ⟨decide (v = 0), true, decide ((memRead s s.hl).toNat % 16 = 0), s.cpu.f.c⟩))

/-- `DAA` on every accumulator and every flags, in natural numbers. -/
def Obligations.DecimalAdjustRule : Prop :=
  ∀ s : State,
    let a := s.cpu.a.toNat
    let f := s.cpu.f
    encode .daa = [0x27] ∧
      ∃ t, exec .daa s = .next t ∧ OnlyAluState 1 s t ∧ t.cpu.f.n = f.n ∧ t.cpu.f.h = false ∧
        (t.cpu.f.z = true ↔ t.cpu.a = 0) ∧
        (f.n = false →
          (t.cpu.f.c = true ↔ f.c = true ∨ 0x99 < a) ∧
          t.cpu.a.toNat =
            (a + (if f.c = true ∨ 0x99 < a then 0x60 else 0) + (if f.h = true ∨ 9 < a % 16 then 6 else 0)) % 256) ∧
        (f.n = true →
          t.cpu.f.c = f.c ∧
          t.cpu.a.toNat = (a + (if f.c = true then 256 - 0x60 else 0) + (if f.h = true then 256 - 6 else 0)) % 256)

/-- The source's testable property: an add (or a subtract that does not go below zero) of two BCD bytes followed by
`DAA` gives the BCD byte of the sum (of the difference); beyond 99 the carry is the hundred. -/
def Obligations.DecimalAdjustGivesDecimalResults : Prop :=
  ∀ (s : State) (x y : Nat), x < 100 → y < 100 → s.cpu.a = bcd x → s.cpu.b = bcd y →
    (∃ t u, exec .add_A_B s = .next t ∧ exec .daa t = .next u ∧ u.cpu.a = bcd ((x + y) % 100) ∧
      (u.cpu.f.c = true ↔ 100 ≤ x + y)) ∧
    (y ≤ x → ∃ t u, exec .sub_B s = .next t ∧ exec .daa t = .next u ∧ u.cpu.a = bcd (x - y) ∧
      u.cpu.f.c = false)

/-- `CPL`, `SCF` and `CCF`: the whole next state. -/
def Obligations.ComplementAndCarryFlagOps : Prop :=
  ∀ s : State,
    (encode .cpl = [0x2F] ∧
      Ends .cpl s 1 ((s.setReg .a (~~~s.cpu.a)).setFlags ⟨s.cpu.f.z, true, true, s.cpu.f.c⟩)) ∧
    (encode .scf = [0x37] ∧ Ends .scf s 1 (s.setFlags ⟨s.cpu.f.z, false, false, true⟩)) ∧
    (encode .ccf = [0x3F] ∧ Ends .ccf s 1 (s.setFlags ⟨s.cpu.f.z, false, false, !s.cpu.f.c⟩))

/-! ## 16-bit arithmetic -/

/-- `ADD HL,rr`: the sum modulo 65536, `H` the carry out of bit 11, `C` the carry out of bit 15, `Z` kept.
`INC rr` and `DEC rr`: one up or down modulo 65536 and no flag. -/
def Obligations.SixteenBitArithmetic : Prop :=
  ∀ (s : State) (p : Pair),
    let a := s.hl.toNat
    let b := (s.pair p).toNat
    (encode (.addHLPair p) = [opByte (0x09 + 16 * p.code)] ∧
      ∃ v : Word, v.toNat = (a + b) % 65536 ∧
        Ends (.addHLPair p) s 2 ((s.setPair .hl v).setFlags
          ⟨s.cpu.f.z, false, decide (4096 ≤ a % 4096 + b % 4096), decide (65536 ≤ a + b)⟩)) ∧
    (encode (.incPair p) = [opByte (0x03 + 16 * p.code)] ∧
      ∃ v : Word, v.toNat = (b + 1) % 65536 ∧ Ends (.incPair p) s 2 (s.setPair p v)) ∧
    (encode (.decPair p) = [opByte (0x0B + 16 * p.code)] ∧
      ∃ v : Word, v.toNat = (b + 65535) % 65536 ∧ Ends (.decPair p) s 2 (s.setPair p v))

/-- `ADD SP,e8` and `LD HL,SP+e8`: the sum reads `e8` as signed, the two flags add its raw byte to the low byte of
`sp`; `Z` and `N` are 0. -/
def Obligations.StackPointerPlusOffset : Prop :=
  ∀ (s : State) (e : Byte),
    let f : Flags := ⟨false, false, decide (16 ≤ s.cpu.sp.toNat % 16 + e.toNat % 16),
      decide (256 ≤ s.cpu.sp.toNat % 256 + e.toNat)⟩
    encode (.add_SP_e8 e) = [0xE8, e] ∧ encode (.ld_HL_SP_e8 e) = [0xF8, e] ∧
      ∃ v : Word,
        (v.toNat : Int) = ((s.cpu.sp.toNat : Int) + (if e.toNat < 128 then (e.toNat : Int) else e.toNat - 256)) % 65536 ∧
        Ends (.add_SP_e8 e) s 4 ((s.setSp v).setFlags f) ∧
        Ends (.ld_HL_SP_e8 e) s 3 ((s.setPair .hl v).setFlags f)

/-! ## Rotates, shifts, bits -/

/-- The four accumulator rotates: bit by bit, `C` the bit that left, `Z N H` forced to 0. -/
def Obligations.AccumulatorRotates : Prop :=
  ∀ s : State,
    let f (op : RotOp) : Flags := ⟨false, false, false, rotCarry op s.cpu.a⟩
    (encode .rlca = [0x07] ∧
      ∃ v, RotatedBits .rlc s.cpu.a s.cpu.f.c v ∧ Ends .rlca s 1 ((s.setReg .a v).setFlags (f .rlc))) ∧
    (encode .rrca = [0x0F] ∧
      ∃ v, RotatedBits .rrc s.cpu.a s.cpu.f.c v ∧ Ends .rrca s 1 ((s.setReg .a v).setFlags (f .rrc))) ∧
    (encode .rla = [0x17] ∧
      ∃ v, RotatedBits .rl s.cpu.a s.cpu.f.c v ∧ Ends .rla s 1 ((s.setReg .a v).setFlags (f .rl))) ∧
    (encode .rra = [0x1F] ∧
      ∃ v, RotatedBits .rr s.cpu.a s.cpu.f.c v ∧ Ends .rra s 1 ((s.setReg .a v).setFlags (f .rr)))

/-- The rotates, shifts and swap of the extended table, on every register and on the byte at `HL`: bit by bit,
`Z` from the result, `C` the bit that left (0 for `SWAP`). -/
def Obligations.ExtendedRotatesAndShifts : Prop :=
  ∀ (s : State) (op : RotOp),
    (∀ r : Reg8, encode (.rotReg op r) = [0xCB, opByte (8 * op.code + r.code)] ∧
      ∃ v, RotatedBits op (s.reg r) s.cpu.f.c v ∧
        Ends (.rotReg op r) s 2 ((s.setReg r v).setFlags
          ⟨decide (v = 0), false, false, rotCarry op (s.reg r)⟩)) ∧
    (encode (.rotAtHL op) = [0xCB, opByte (8 * op.code + 6)] ∧
      ∃ v, RotatedBits op (memRead s s.hl) s.cpu.f.c v ∧
        Ends (.rotAtHL op) s 4 ((memWrite s s.hl v).setFlags
          ⟨decide (v = 0), false, false, rotCarry op (memRead s s.hl)⟩))

/-- `BIT` writes `Z` (the complement of the bit), `N` and `H`, nothing else. `RES` and `SET` change the one bit of
the register or of the byte at `HL`, and no flag. -/
def Obligations.BitInstructions : Prop :=
  ∀ (s : State) (b : Fin 8),
    (∀ r : Reg8, encode (.bitReg b r) = [0xCB, opByte (0x40 + 8 * b + r.code)] ∧
      Ends (.bitReg b r) s 2 (s.setFlags ⟨!bit (s.reg r) b, false, true, s.cpu.f.c⟩)) ∧
    (encode (.bitAtHL b) = [0xCB, opByte (0x46 + 8 * b)] ∧
      Ends (.bitAtHL b) s 3 (s.setFlags ⟨!bit (memRead s s.hl) b, false, true, s.cpu.f.c⟩)) ∧
    (∀ r : Reg8, encode (.resReg b r) = [0xCB, opByte (0x80 + 8 * b + r.code)] ∧
      ∃ v : Byte, (∀ i < 8, bit v i = (decide (i ≠ b) && bit (s.reg r) i)) ∧
        Ends (.resReg b r) s 2 (s.setReg r v)) ∧
    (encode (.resAtHL b) = [0xCB, opByte (0x86 + 8 * b)] ∧
      ∃ v : Byte, (∀ i < 8, bit v i = (decide (i ≠ b) && bit (memRead s s.hl) i)) ∧
        Ends (.resAtHL b) s 4 (memWrite s s.hl v)) ∧
    (∀ r : Reg8, encode (.setReg b r) = [0xCB, opByte (0xC0 + 8 * b + r.code)] ∧
      ∃ v : Byte, (∀ i < 8, bit v i = (decide (i = b) || bit (s.reg r) i)) ∧
        Ends (.setReg b r) s 2 (s.setReg r v)) ∧
    (encode (.setAtHL b) = [0xCB, opByte (0xC6 + 8 * b)] ∧
      ∃ v : Byte, (∀ i < 8, bit v i = (decide (i = b) || bit (memRead s s.hl) i)) ∧
        Ends (.setAtHL b) s 4 (memWrite s s.hl v))

/-! ## Control transfers -/

/-- The jumps: only `pc` changes, taken or not, and the cost says which. A relative target is `pc` (past the offset byte)
plus the signed offset, modulo 65536. The conditions read `Z` and `C`. -/
def Obligations.Jumps : Prop :=
  ∀ (s : State) (n : Word) (e : Byte),
    (encode (.jp_n16 n) = [0xC3, loByte n, hiByte n] ∧ Ends (.jp_n16 n) s 4 (s.setPc n)) ∧
    (∀ cc : Cond, encode (.jpCond cc n) = [opByte (0xC2 + 8 * cc.code), loByte n, hiByte n] ∧
      (s.cond cc = true → Ends (.jpCond cc n) s 4 (s.setPc n)) ∧
      (s.cond cc = false → Ends (.jpCond cc n) s 3 s)) ∧
    (encode .jp_HL = [0xE9] ∧ Ends .jp_HL s 1 (s.setPc (joinBytes s.cpu.h s.cpu.l))) ∧
    (∃ a : Word,
      (a.toNat : Int) = ((s.cpu.pc.toNat : Int) + (if e.toNat < 128 then (e.toNat : Int) else e.toNat - 256)) % 65536 ∧
      encode (.jr_e8 e) = [0x18, e] ∧ Ends (.jr_e8 e) s 3 (s.setPc a) ∧
      ∀ cc : Cond, encode (.jrCond cc e) = [opByte (0x20 + 8 * cc.code), e] ∧
        (s.cond cc = true → Ends (.jrCond cc e) s 3 (s.setPc a)) ∧
        (s.cond cc = false → Ends (.jrCond cc e) s 2 s)) ∧
    (s.cond .nz = true ↔ s.cpu.f.z = false) ∧ (s.cond .z = true ↔ s.cpu.f.z = true) ∧
    (s.cond .nc = true ↔ s.cpu.f.c = false) ∧ (s.cond .c = true ↔ s.cpu.f.c = true)

/-- Calls push `pc` (the address of the instruction after the call) and go to the target; a call not taken changes
nothing. -/
def Obligations.CallsPushTheLink : Prop :=
  ∀ (s : State) (n : Word),
    (encode (.call_n16 n) = [0xCD, loByte n, hiByte n] ∧
      Ends (.call_n16 n) s 6 ((pushed s s.cpu.pc).setPc n)) ∧
    (∀ cc : Cond, encode (.callCond cc n) = [opByte (0xC4 + 8 * cc.code), loByte n, hiByte n] ∧
      (s.cond cc = true → Ends (.callCond cc n) s 6 ((pushed s s.cpu.pc).setPc n)) ∧
      (s.cond cc = false → Ends (.callCond cc n) s 3 s)) ∧
    (∀ y : Fin 8, encode (.rst y) = [opByte (0xC7 + 8 * y)] ∧
      Ends (.rst y) s 4 ((pushed s s.cpu.pc).setPc (BitVec.ofNat 16 (8 * y))))

/-- Returns pop `pc`; `RETI` also turns interrupts on; a return not taken changes nothing. That `RETI` enables at once,
through no delay, is the spec's own decision (`92_eei_decisions.md` D7). -/
def Obligations.ReturnsPopThePc : Prop :=
  ∀ s : State,
    let back := (s.setSp (s.cpu.sp + 2)).setPc (popped s)
    (encode .ret = [0xC9] ∧ Ends .ret s 4 back) ∧
    (∀ cc : Cond, encode (.retCond cc) = [opByte (0xC0 + 8 * cc.code)] ∧
      (s.cond cc = true → Ends (.retCond cc) s 5 back) ∧ (s.cond cc = false → Ends (.retCond cc) s 2 s)) ∧
    (encode .reti = [0xD9] ∧ Ends .reti s 4 { back with cpu := { back.cpu with ime := true, imeDelay := 0 } })

/-! ## System instructions -/

/-- `NOP`, `DI` and `EI`. That `DI` acts at once and `EI` through `ime_delay` is the spec's own decision
(`92_eei_decisions.md` D6, D7). -/
def Obligations.NopDiEi : Prop :=
  ∀ s : State,
    (encode .nop = [0x00] ∧ Ends .nop s 1 s) ∧
    (encode .di = [0xF3] ∧ Ends .di s 1 { s with cpu := { s.cpu with ime := false, imeDelay := 0 } }) ∧
    (encode .ei = [0xFB] ∧ Ends .ei s 1 { s with cpu := { s.cpu with imeDelay := 2 } })

/-- `HALT` halts, or with `HALT_BUG`, `ime` false and an interrupt pending sets `halt_bug`. A halted CPU at a boundary
does nothing while no enabled interrupt is flagged; once one is, whatever `ime` is, it wakes in that cycle and
serves it or fetches. All of it is the spec's own decision (`92_eei_decisions.md` D8). -/
def Obligations.HaltSleepsAndWakes : Prop :=
  ∀ s : State,
    (encode .halt = [0x76] ∧
      (s.params.haltBug = true ∧ s.cpu.ime = false ∧ s.irq.pending = true →
        Ends .halt s 1 { s with cpu := { s.cpu with haltBug := true } }) ∧
      (s.params.haltBug = false ∨ s.cpu.ime = true ∨ s.irq.pending = false →
        Ends .halt s 1 { s with cpu := { s.cpu with halted := true } })) ∧
    (AtBoundary s → s.cpu.halted = true → s.cpu.imeDelay = 0 →
      (s.irq.pending = false → cpuStep s = .next s) ∧
      (s.irq.pending = true → s.cpu.ime = false →
        cpuStep s = fetchExecute { s with cpu := { s.cpu with halted := false } }) ∧
      (s.irq.pending = true → s.cpu.ime = true →
        cpuStep s = .next (serviceInterrupt { s with cpu := { s.cpu with halted := false } })))

/-- `STOP` with the switch armed toggles `double_speed` and disarms it, at cost 1. Otherwise it, and each of the eleven
undefined opcodes, ends with `fatal` set to its reason and nothing else changed: the instruction takes the spec's own
terminal condition (`92_eei_decisions.md` D9, D10, D46; that raising it is a next state is the model's,
notes/assumptions/8.md). The address is the one the opcode byte was fetched from, as `cpu_step` kept it in `a`. -/
def Obligations.StopAndUndefinedOpcodes : Prop :=
  ∀ s : State,
    (∀ pad : Byte, encode (.stop pad) = [0x10, pad] ∧
      (s.cpu.speedArmed = true →
        Ends (.stop pad) s 1
          { s with cpu := { s.cpu with doubleSpeed := !s.cpu.doubleSpeed, speedArmed := false } }) ∧
      (s.cpu.speedArmed = false →
        exec (.stop pad) s =
          .next { s with cpu := { s.cpu with fatal := some (.unimplementedLowPower s.cpu.fetchAddr) } })) ∧
    (∀ e ∈ [(0xD3, Instr.illegal_D3), (0xDB, .illegal_DB), (0xDD, .illegal_DD), (0xE3, .illegal_E3),
        (0xE4, .illegal_E4), (0xEB, .illegal_EB), (0xEC, .illegal_EC), (0xED, .illegal_ED), (0xF4, .illegal_F4),
        (0xFC, .illegal_FC), (0xFD, .illegal_FD)],
      encode e.2 = [opByte e.1] ∧
        exec e.2 s =
          .next { s with cpu := { s.cpu with fatal := some (.undefinedOpcode (opByte e.1) s.cpu.fetchAddr) } })

/-- The prefix row fetches one more byte and runs the extended-table instruction that byte selects, and no byte
makes it fatal. -/
def Obligations.PrefixRowRunsTheExtendedTable : Prop :=
  ∀ s : State, encode .prefixCB = [0xCB] ∧
    ∃ t, exec .prefixCB s = .next t ∧
      exec (extInstr (memRead s s.cpu.pc)) (s.setPc (s.cpu.pc + 1)) = .next t ∧ t.cpu.fatal = s.cpu.fatal

/-! ## Rules about every instruction -/

/-- Every instruction, in every state, answers a next state. Of `STOP` without the switch armed and of the eleven undefined
opcodes this holds by the model's choice alone (notes/assumptions/8.md, DEDUCED): R341 and the spec's own decision
D46 (`92_eei_decisions.md`) ask for a terminal outcome, and here the raising instruction answers the next state
that records it and the steps after it answer the fault. -/
def Obligations.NoInstructionStops : Prop := ∀ (i : Instr) (s : State), ∃ t, exec i s = .next t

/-- The machine stops exactly when a fatal condition has been raised, and then with its reason. The sticky condition is
the spec's own decision (`92_eei_decisions.md` D46); the fault as its terminal outcome is the model's form
(notes/assumptions/8.md). -/
def Obligations.OnlyAFatalStateStops : Prop :=
  ∀ s : State, ((∃ t, step s = .next t) ↔ s.cpu.fatal = none) ∧
    ∀ r, step s = .fault (.fatal r) ↔ s.cpu.fatal = some r

/-- The frame of memory: an instruction whose stores, if any, go to storage bytes leaves every other byte as it
read before. `STOP` is left out: it changes the bits KEY1 shows. -/
def Obligations.StoredBytesOnly : Prop :=
  ∀ (i : Instr) (s : State), WellFormed i = true → (∀ pad, i ≠ .stop pad) → ArraysOk s →
    (∀ a ∈ storeAddresses i s, isStorage (locate s a) = true) →
    ∃ t, exec i s = .next t ∧
      ∀ b : Word, (∀ a ∈ storeAddresses i s, locate s b ≠ locate s a) → memRead t b = memRead s b

/-- The complete table of flag effects: each flag is kept, forced, or free to be the result, as the table says. -/
def Obligations.FlagEffectTable : Prop :=
  ∀ (i : Instr) (s : State), WellFormed i = true →
    ∃ t, exec i s = .next t ∧ FlagObeys (flagRow i).z s.cpu.f.z t.cpu.f.z ∧
      FlagObeys (flagRow i).n s.cpu.f.n t.cpu.f.n ∧ FlagObeys (flagRow i).h s.cpu.f.h t.cpu.f.h ∧
      FlagObeys (flagRow i).c s.cpu.f.c t.cpu.f.c

/-- Which instructions write the CPU's control state: `ime` only `DI` and `RETI`, `ime_delay` only these and `EI`,
`halted` and `halt_bug` only `HALT`, `double_speed` only `STOP`, `fatal` only `STOP` and the undefined opcodes. -/
def Obligations.ControlStateWriters : Prop :=
  ∀ (i : Instr) (s t : State), exec i s = .next t →
    (i ≠ .di → i ≠ .reti → t.cpu.ime = s.cpu.ime) ∧
    (i ≠ .di → i ≠ .reti → i ≠ .ei → t.cpu.imeDelay = s.cpu.imeDelay) ∧
    (i ≠ .halt → t.cpu.halted = s.cpu.halted ∧ t.cpu.haltBug = s.cpu.haltBug) ∧
    ((∀ pad, i ≠ .stop pad) → t.cpu.doubleSpeed = s.cpu.doubleSpeed) ∧
    ((∀ pad, i ≠ .stop pad) → (∀ e ∈ Instr.undefinedOpcodes, i ≠ e.2) → t.cpu.fatal = s.cpu.fatal)

/-! ## Memory and registers -/

/-- A write to a storage byte: every address that names the same byte reads the value, every other address reads as
before. -/
def Obligations.StorageWriteReadsBack : Prop :=
  ∀ (s : State) (a : Word) (v : Byte), ArraysOk s → isStorage (locate s a) = true →
    ∀ b : Word, memRead (memWrite s a v) b = if locate s b = locate s a then v else memRead s b

/-- The mirror 0xE000-0xFDFF names the same work RAM bytes as 0xC000-0xDDFF, in every bank. How the bank
register chooses the bank is the spec's own decision (`92_eei_decisions.md` D16). -/
def Obligations.WorkRamMirror : Prop :=
  ∀ (s : State) (a : Word), 0xC000 ≤ a.toNat → a.toNat ≤ 0xDDFF →
    locate s (a + 0x2000) = locate s a ∧
      locate s a = .wram (if a.toNat < 0xD000 then a.toNat % 4096 else wramBank s * 4096 + a.toNat % 4096) ∧
      1 ≤ wramBank s ∧ wramBank s ≤ 7

/-- The unmap latch: true at reset, cleared by the first write of any value to 0xFF50, never set again by a step; once
it is clear every read of 0x0000-0x7FFF is cartridge ROM, and a mapped overlay hides the cartridge. The register's
address, and that any value unmaps, are the spec's own decision (`92_eei_decisions.md` D14), and so is the value at
reset (D13). Which addresses the overlay covers is an open parameter (R10, D14), here `covers` of the state's ranges,
whatever they are (notes/assumptions/2.md); that a covered address beyond the image's end reads 0x00 is the model's
choice (notes/assumptions/24.md, DESIGN CHOICE). -/
def Obligations.UnmapLatchIsOneWay : Prop :=
  State.reset.boot.mapped = true ∧
    (∀ (s : State) (v : Byte), (memWrite s 0xFF50 v).boot.mapped = false) ∧
    (∀ s t : State, step s = .next t → s.boot.mapped = false → t.boot.mapped = false) ∧
    (∀ (s : State) (a : Word), a.toNat < 0x8000 →
      memRead s a =
        if s.boot.mapped = true ∧ s.boot.covers a.toNat = true then Memory.read s.boot.image a.toNat
        else Memory.read s.cart.rom (romOffset s.cart a.toNat))

/-- No step changes the cartridge's image or configuration, the boot image and its ranges, or the open parameters; nor
the mode bit once the boot image is unmapped, by the spec's own decision (`92_eei_decisions.md` D15). -/
def Obligations.ConfigurationNeverChanges : Prop :=
  ∀ s t : State, step s = .next t →
    t.cart.rom = s.cart.rom ∧ t.cart.kind = s.cart.kind ∧ t.cart.hasRam = s.cart.hasRam ∧
      t.cart.hasBattery = s.cart.hasBattery ∧ t.cart.hasRtc = s.cart.hasRtc ∧ t.cart.romSize = s.cart.romSize ∧
      t.cart.ramSize = s.cart.ramSize ∧ t.boot.image = s.boot.image ∧ t.boot.overlay = s.boot.overlay ∧
      t.params = s.params ∧ (s.boot.mapped = false → t.bus.enhanced = s.bus.enhanced)

/-- The bank controllers of the four variants: bank-select writes to every window, with nothing else changed; which byte of
the ROM an address below 0x8000 shows; what the RAM window reads and stores to. The writes reach the bank controller
whether or not the boot image is mapped there, by the spec's own decision (R65, `92_eei_decisions.md` D14). On `Mbc3`
with a clock, 0 and then 1 written to the last window copies the elapsed time into the snapshot (R555). That on `Mbc3`
without a clock a write there is remembered too is the model's reading (notes/assumptions/22.md, DEDUCED): R547 writes
`rtc_latch_prev`, but R45 gives it only to a cartridge with a clock. That bank 0 shows as bank 1 on every banked
variant, and that the RAM of `NoMbc` is always enabled, are the spec's own decision (D40). -/
def Obligations.BankSelectWrites : Prop :=
  ∀ (s : State) (v : Byte),
    (∀ a : Word, a.toNat < 0x8000 →
      (s.cart.kind = .noMbc → memWrite s a v = s) ∧
      (s.cart.kind ≠ .noMbc → a.toNat < 0x2000 →
        memWrite s a v = { s with cart := { s.cart with ramEnabled := decide (v.toNat % 16 = 10) } }) ∧
      (s.cart.kind = .mbc1 →
        (0x2000 ≤ a.toNat → a.toNat < 0x4000 →
          memWrite s a v = { s with cart := { s.cart with romBank := v.toNat % 32 } }) ∧
        (0x4000 ≤ a.toNat → a.toNat < 0x6000 →
          memWrite s a v = { s with cart := { s.cart with ramBank := v.toNat % 4 } }) ∧
        (0x6000 ≤ a.toNat → memWrite s a v = { s with cart := { s.cart with advanced := decide (v.toNat % 2 = 1) } })) ∧
      (s.cart.kind = .mbc3 →
        (0x2000 ≤ a.toNat → a.toNat < 0x4000 →
          memWrite s a v = { s with cart := { s.cart with romBank := v.toNat % 128 } }) ∧
        (0x4000 ≤ a.toNat → a.toNat < 0x6000 →
          (v.toNat ≤ 3 →
            memWrite s a v =
              { s with cart := { s.cart with ramBank := v.toNat, rtc := { s.cart.rtc with select := none } } }) ∧
          (∀ f : RtcField, s.cart.hasRtc = true → v.toNat = 8 + f.index →
            memWrite s a v = { s with cart := { s.cart with rtc := { s.cart.rtc with select := some f } } }) ∧
          (3 < v.toNat → s.cart.hasRtc = false ∨ v.toNat < 8 ∨ 12 < v.toNat → memWrite s a v = s)) ∧
        (0x6000 ≤ a.toNat →
          (s.cart.hasRtc = true ∧ s.cart.rtc.latchPrev = 0 ∧ v = 1 →
            let n := s.cart.rtc.normalise s.now
            let e := n.elapsed s.now
            memWrite s a v = { s with cart := { s.cart with rtc := { n with
              latched := ⟨e % 60, e / 60 % 60, e / 3600 % 24, e / 86400, n.halted, n.carry⟩
              latchPrev := 1 } } }) ∧
          (s.cart.hasRtc = false ∨ s.cart.rtc.latchPrev ≠ 0 ∨ v ≠ 1 →
            memWrite s a v = { s with cart := { s.cart with rtc := { s.cart.rtc with latchPrev := v } } }))) ∧
      (s.cart.kind = .mbc5 →
        (0x2000 ≤ a.toNat → a.toNat < 0x3000 →
          memWrite s a v = { s with cart := { s.cart with romBank := s.cart.romBank / 256 * 256 + v.toNat } }) ∧
        (0x3000 ≤ a.toNat → a.toNat < 0x4000 →
          memWrite s a v = { s with cart := { s.cart with romBank := v.toNat % 2 * 256 + s.cart.romBank % 256 } }) ∧
        (0x4000 ≤ a.toNat → a.toNat < 0x6000 →
          memWrite s a v = { s with cart := { s.cart with ramBank := v.toNat % 16 } }) ∧
        (0x6000 ≤ a.toNat → memWrite s a v = s))) ∧
    (∀ a : Word, a.toNat < 0x8000 →
      let banks := s.cart.romSize / 16384
      let shown := if s.cart.romBank = 0 then 1 else s.cart.romBank
      (s.cart.kind = .noMbc → romOffset s.cart a.toNat = a.toNat % s.cart.romSize) ∧
      (s.cart.kind = .mbc1 →
        (a.toNat < 0x4000 →
          romOffset s.cart a.toNat =
            (if s.cart.advanced = true then s.cart.ramBank * 32 else 0) % banks * 16384 + a.toNat) ∧
        (0x4000 ≤ a.toNat →
          romOffset s.cart a.toNat = (s.cart.ramBank * 32 ||| shown) % banks * 16384 + (a.toNat - 0x4000))) ∧
      (s.cart.kind = .mbc3 ∨ s.cart.kind = .mbc5 →
        (a.toNat < 0x4000 → romOffset s.cart a.toNat = a.toNat) ∧
        (0x4000 ≤ a.toNat → romOffset s.cart a.toNat = shown % banks * 16384 + (a.toNat - 0x4000)))) ∧
    (∀ a : Word, 0xA000 ≤ a.toNat → a.toNat < 0xC000 →
      (∀ bank : Nat, s.cart.ramSize ≠ 0 →
        (s.cart.kind = .noMbc ∧ bank = 0 ∨
          s.cart.ramEnabled = true ∧
            (s.cart.kind = .mbc1 ∧ bank = (if s.cart.advanced = true then s.cart.ramBank else 0) ∨
              s.cart.kind = .mbc3 ∧ s.cart.rtc.select = none ∧ bank = s.cart.ramBank ∨
              s.cart.kind = .mbc5 ∧ bank = s.cart.ramBank)) →
        let i := (bank * 8192 + (a.toNat - 0xA000)) % s.cart.ramSize
        memRead s a = Memory.read s.cart.ram i ∧
          memWrite s a v = { s with cart := { s.cart with ram := s.cart.ram.write i v } }) ∧
      (∀ f : RtcField, s.cart.kind = .mbc3 → s.cart.ramEnabled = true → s.cart.rtc.select = some f →
        (memRead s a).toNat =
          (match f with
          | .seconds => s.cart.rtc.latched.s % 256
          | .minutes => s.cart.rtc.latched.m % 256
          | .hours => s.cart.rtc.latched.h % 256
          | .dayLow => s.cart.rtc.latched.d % 256
          | .dayHigh => (if s.cart.rtc.latched.carry = true then 128 else 0) +
              (if s.cart.rtc.latched.halt = true then 64 else 0) + s.cart.rtc.latched.d / 256 % 2) ∧
          memWrite s a v = { s with cart := { s.cart with rtc := s.cart.rtc.writeField s.now f v } }) ∧
      (s.cart.kind ≠ .noMbc ∧ s.cart.ramEnabled = false ∨
          s.cart.ramSize = 0 ∧ (s.cart.kind ≠ .mbc3 ∨ s.cart.rtc.select = none) →
        memRead s a = 0xFF ∧ memWrite s a v = s))

/-- The ports of the timer, the interrupt masks, the bank registers, the mode and speed registers, `STAT`, `LY`, `LYC` and
the joypad: what a write stores, what a read gives, and that nothing else changes. All eight bits of `IF` and `IE`,
the timer's map, the mode register, the speed register, the layout of `STAT` and that of `P1` are the spec's own
decisions (`92_eei_decisions.md` D11, D26, D15, D28, D30, D42). -/
def Obligations.PlainRegisterPorts : Prop :=
  ∀ (s : State) (v : Byte),
    (memWrite s 0xFF04 v = { s with timer := { s.timer with divCounter := 0 } } ∧
      (memRead s 0xFF04).toNat = s.timer.divCounter.toNat / 256) ∧
    (memWrite s 0xFF05 v = { s with timer := { s.timer with tima := v } } ∧ memRead s 0xFF05 = s.timer.tima) ∧
    (memWrite s 0xFF06 v = { s with timer := { s.timer with tma := v } } ∧ memRead s 0xFF06 = s.timer.tma) ∧
    (memWrite s 0xFF07 v = { s with timer := { s.timer with tac := v.extractLsb' 0 3 } } ∧
      (memRead s 0xFF07).toNat = 0xF8 + s.timer.tac.toNat) ∧
    (memWrite s 0xFF0F v = { s with irq := { s.irq with flags := v } } ∧ memRead s 0xFF0F = s.irq.flags) ∧
    (memWrite s 0xFFFF v = { s with irq := { s.irq with ie := v } } ∧ memRead s 0xFFFF = s.irq.ie) ∧
    (memWrite s 0xFF4F v = { s with video := { s.video with vbk := v.extractLsb' 0 1 } } ∧
      (memRead s 0xFF4F).toNat = 0xFE + s.video.vbk.toNat) ∧
    (memWrite s 0xFF70 v = { s with bus := { s.bus with svbk := v.extractLsb' 0 3 } } ∧
      (memRead s 0xFF70).toNat = 0xF8 + s.bus.svbk.toNat) ∧
    ((s.boot.mapped = true → memWrite s 0xFF4C v = { s with bus := { s.bus with enhanced := !bit v 2 } }) ∧
      (s.boot.mapped = false → memWrite s 0xFF4C v = s) ∧ memRead s 0xFF4C = 0xFF) ∧
    (memWrite s 0xFF4D v = { s with cpu := { s.cpu with speedArmed := bit v 0 } } ∧
      (memRead s 0xFF4D).toNat =
        (if s.cpu.doubleSpeed = true then 128 else 0) + 0x7E + (if s.cpu.speedArmed = true then 1 else 0)) ∧
    (memWrite s 0xFF41 v = { s with video := { s.video with statSel := v.extractLsb' 3 4 } } ∧
      (memRead s 0xFF41).toNat =
        128 + 8 * s.video.statSel.toNat + (if s.video.ly = s.video.lyc.toNat then 4 else 0) +
          (if s.video.on = true then
            match s.video.mode with
            | .hBlank => 0
            | .vBlank => 1
            | .oamSearch => 2
            | .transfer => 3
          else 0)) ∧
    (memWrite s 0xFF44 v = s ∧ (s.video.ly < 154 → (memRead s 0xFF44).toNat = s.video.ly)) ∧
    (memWrite s 0xFF45 v = { s with video := { s.video with lyc := v } } ∧ memRead s 0xFF45 = s.video.lyc) ∧
    (memWrite s 0xFF00 v = { s with joypad := { s.joypad with select := v.extractLsb' 4 2 } } ∧
      let j := s.joypad
      let dir := [j.buttons.right, j.buttons.left, j.buttons.up, j.buttons.down]
      let act := [j.buttons.a, j.buttons.b, j.buttons.select, j.buttons.start]
      (∀ i < 4, (bit (memRead s 0xFF00) i = false ↔
        (j.select.getLsbD 0 = false ∧ dir[i]? = some true) ∨ (j.select.getLsbD 1 = false ∧ act[i]? = some true))) ∧
      bit (memRead s 0xFF00) 4 = j.select.getLsbD 0 ∧ bit (memRead s 0xFF00) 5 = j.select.getLsbD 1 ∧
      bit (memRead s 0xFF00) 6 = true ∧ bit (memRead s 0xFF00) 7 = true)

/-- The palette ports: a data write stores at the index, and moves the index on, modulo 64, only with bit 7 set.
That the data ports are open in every video mode is the spec's own decision (`92_eei_decisions.md` D20). -/
def Obligations.PalettePorts : Prop :=
  ∀ (s : State) (v : Byte), bit s.video.bcps 6 = false → bit s.video.ocps 6 = false →
    (memWrite s 0xFF68 v = { s with video := { s.video with bcps := v &&& 0xBF } } ∧
      memRead s 0xFF68 = s.video.bcps ||| 0x40) ∧
    (memWrite s 0xFF6A v = { s with video := { s.video with ocps := v &&& 0xBF } } ∧
      memRead s 0xFF6A = s.video.ocps ||| 0x40) ∧
    (∃ p : Byte,
      p.toNat = (if 128 ≤ s.video.bcps.toNat then 128 + (s.video.bcps.toNat % 64 + 1) % 64 else s.video.bcps.toNat) ∧
      memWrite s 0xFF69 v =
        { s with
          bgPalette := s.bgPalette.write (s.video.bcps.toNat % 64) v
          video := { s.video with bcps := p } } ∧
      memRead s 0xFF69 = Memory.read s.bgPalette (s.video.bcps.toNat % 64)) ∧
    (∃ p : Byte,
      p.toNat = (if 128 ≤ s.video.ocps.toNat then 128 + (s.video.ocps.toNat % 64 + 1) % 64 else s.video.ocps.toNat) ∧
      memWrite s 0xFF6B v =
        { s with
          objPalette := s.objPalette.write (s.video.ocps.toNat % 64) v
          video := { s.video with ocps := p } } ∧
      memRead s 0xFF6B = Memory.read s.objPalette (s.video.ocps.toNat % 64))


/-! ## The CPU's cycle -/

/-- A step runs the decoded instruction: from a live state at a boundary, not halted, with no interrupt to serve and
no repeated fetch, when the bytes at `pc` decode to `i`, the step is `exec i` with `pc` past the instruction's bytes and
`ime_delay` one further; then the other agents step (unless `i` raised a fatal condition) and the frame is
kept. The host's input comes first. What one step is, with the input before and the frame's books after the machine
cycle, is the model's choice (notes/assumptions/7.md, DEDUCED), and so is that the operand bytes are read at once and
the meaning starts with `pc` past the whole instruction (notes/assumptions/13.md, DEDUCED). That all effects come in
the first cycle, the order of the checks and the delayed enable are the spec's own decisions
(`92_eei_decisions.md` D2, D3, D6). -/
def Obligations.StepRunsTheDecodedInstruction : Prop :=
  ∀ (s0 : State) (i : Instr) (rest : List Byte),
    let s := applyInput s0
    s0.cpu.fatal = none → AtBoundary s → s.cpu.halted = false → s.cpu.haltBug = false →
    (imeSeen s = true → s.irq.pending = false) →
    decode [memRead s s.cpu.pc, memRead s (s.cpu.pc + 1), memRead s (s.cpu.pc + 2)] = .ok (i, rest) →
    ∃ t,
      exec i { s with cpu := { s.cpu with
        pc := s.cpu.pc + BitVec.ofNat 16 (encode i).length
        fetchAddr := s.cpu.pc
        imeDelay := s.cpu.imeDelay - 1
        ime := imeSeen s } } = .next t ∧
      step s0 = .next (if t.cpu.fatal.isSome = true then t else frameBoundary (peripherals t))

/-- The other cases of the CPU's cycle. Between boundaries only the countdown moves. During a stall nothing of the CPU
moves. After `EI` (`ime_delay` 2, `ime` false) no interrupt is served at the next boundary and an instruction is
fetched; one boundary later (`ime_delay` 1) `ime` is on before the interrupt check. With `halt_bug` set the opcode
byte is read twice and `pc` goes one byte less far, once. The latency and `halt_bug` are the spec's own decisions
(`92_eei_decisions.md` D6, D8). -/
def Obligations.OtherCasesOfTheCpuCycle : Prop :=
  ∀ s : State,
    (0 < s.cpu.cyc → cpuStep s = .next { s with cpu := { s.cpu with cyc := s.cpu.cyc - 1 } }) ∧
    (s.cpu.cyc = 0 → (∃ t, s.dma.transfer = some t ∧ t.kind = .general) → cpuStep s = .next s) ∧
    (AtBoundary s → s.cpu.halted = false →
      (s.cpu.imeDelay = 2 → s.cpu.ime = false →
        cpuStep s = fetchExecute { s with cpu := { s.cpu with imeDelay := 1 } }) ∧
      (s.cpu.imeDelay = 1 → s.irq.pending = true →
        cpuStep s = .next (serviceInterrupt { s with cpu := { s.cpu with imeDelay := 0, ime := true } })) ∧
      (s.cpu.imeDelay = 1 → s.irq.pending = false →
        cpuStep s = fetchExecute { s with cpu := { s.cpu with imeDelay := 0, ime := true } }) ∧
      (∀ (i : Instr) (rest : List Byte), s.cpu.haltBug = true → s.cpu.imeDelay = 0 →
        (s.cpu.ime = true → s.irq.pending = false) →
        decode [memRead s s.cpu.pc, memRead s s.cpu.pc, memRead s (s.cpu.pc + 1)] = .ok (i, rest) →
        cpuStep s = exec i { s with cpu := { s.cpu with
          pc := s.cpu.pc + BitVec.ofNat 16 ((encode i).length - 1)
          haltBug := false
          fetchAddr := s.cpu.pc } }))

/-- The interrupt controller bit by bit: `request` sets one flag, `pending` looks at both masks, `pop` takes the lowest
pending bit and clears that flag alone. -/
def Obligations.InterruptControllerBits : Prop :=
  ∀ q : Irq,
    (∀ k < 8, (q.request k).ie = q.ie ∧ ∀ i < 8, bit (q.request k).flags i = (bit q.flags i || decide (i = k))) ∧
    (q.pending = true ↔ ∃ i < 8, bit q.ie i = true ∧ bit q.flags i = true) ∧
    (q.pending = false → q.pop = (none, q)) ∧
    (q.pending = true → ∃ k < 8, ∃ q' : Irq, q.pop = (some k, q') ∧
      bit q.ie k = true ∧ bit q.flags k = true ∧ (∀ j < k, bit q.ie j = true → bit q.flags j = false) ∧
      q'.ie = q.ie ∧ ∀ i < 8, bit q'.flags i = (bit q.flags i && decide (i ≠ k)))

/-- Taking an interrupt, at a boundary with `ime` and an enabled flag, halted or not: the lowest pending bit is
cleared, `ime` and `ime_delay` are cleared, `pc` is pushed and becomes the handler's address, five cycles are
taken; every byte register and the flags are kept, and on a storage stack the two bytes saved are those of `pc`.
That `ime_delay` is cleared is the spec's own decision (`92_eei_decisions.md` D12). -/
def Obligations.InterruptEntry : Prop :=
  ∀ s : State, AtBoundary s → imeSeen s = true → s.irq.pending = true →
    ∃ k < 8, ∃ t,
      bit s.irq.ie k = true ∧ bit s.irq.flags k = true ∧
      (∀ j < k, bit s.irq.ie j = true → bit s.irq.flags j = false) ∧
      cpuStep s = .next t ∧
      t = { pushed { s with
              irq := { s.irq with flags := s.irq.flags &&& ~~~(1#8 <<< k) }
              cpu := { s.cpu with ime := false, imeDelay := 0, halted := false } } s.cpu.pc with
            cpu := { (pushed { s with
              irq := { s.irq with flags := s.irq.flags &&& ~~~(1#8 <<< k) }
              cpu := { s.cpu with ime := false, imeDelay := 0, halted := false } } s.cpu.pc).cpu with
              pc := BitVec.ofNat 16 (0x40 + 8 * k), cyc := 4 } } ∧
      t.cpu.sp = s.cpu.sp - 2 ∧ t.cpu.f = s.cpu.f ∧ (∀ r, t.reg r = s.reg r) ∧
      (ArraysOk s → StackOk s →
        memRead t (s.cpu.sp - 1) = hiByte s.cpu.pc ∧ memRead t (s.cpu.sp - 2) = loByte s.cpu.pc)

/-- A step that raises a fatal condition changes nothing outside the CPU (the rest of the cycle is abandoned); the reason
holds the address the opcode byte was fetched from, after a repeated fetch too, and the byte; and the next step is
the terminal fault with its reason. What a reason records and the abandoned cycle are the spec's own decisions
(R342, `92_eei_decisions.md` D10, D46); that the terminal outcome is a fault is the model's form
(notes/assumptions/8.md). -/
def Obligations.FatalAbandonsTheCycle : Prop :=
  ∀ (s t : State) (r : FatalReason), s.inputs = [] → step s = .next t → t.cpu.fatal = some r →
    { t with cpu := s.cpu } = s ∧ (∀ x, t.reg x = s.reg x) ∧ t.cpu.f = s.cpu.f ∧ t.cpu.sp = s.cpu.sp ∧
      (r = .unimplementedLowPower s.cpu.pc ∧ memRead s s.cpu.pc = 0x10 ∨
        r = .undefinedOpcode (memRead s s.cpu.pc) s.cpu.pc ∧
          (memRead s s.cpu.pc).toNat ∈ [0xD3, 0xDB, 0xDD, 0xE3, 0xE4, 0xEB, 0xEC, 0xED, 0xF4, 0xFC, 0xFD]) ∧
      step t = .fault (.fatal r)

/-! ## Devices -/

/-- The timer step: the divider gains 4; with the enable bit set `TIMA` ticks exactly in the steps that bring the
divider to a multiple of four periods, and an overflow reloads `TMA` and requests interrupt 2. The periods and the
gate, and that the reload is in the same step, are the spec's own decisions (`92_eei_decisions.md` D26, D27). -/
def Obligations.TimerTicksOnItsPeriod : Prop :=
  ∀ s : State, TimerOk s.timer →
    let d := s.timer.divCounter.toNat
    let n : Timer := { s.timer with divCounter := BitVec.ofNat 16 (d + 4) }
    (s.timer.tac.getLsbD 2 = false ∨ (d + 4) % (4 * timerPeriod s.timer.tac) ≠ 0 → timerStep s = { s with timer := n }) ∧
    (s.timer.tac.getLsbD 2 = true ∧ (d + 4) % (4 * timerPeriod s.timer.tac) = 0 →
      (s.timer.tima = 0xFF →
        timerStep s = { s with timer := { n with tima := s.timer.tma }, irq := s.irq.request 2 }) ∧
      (s.timer.tima ≠ 0xFF →
        timerStep s = { s with timer := { n with tima := s.timer.tima + 1 } }))

/-- The two start registers and the two kinds of DMA step: the source byte is what a CPU read at the source address
gives, one byte a cycle into sprite memory, two a cycle into the video RAM bank. Last request wins: the spec's own
decisions (`92_eei_decisions.md` D23 to D25). -/
def Obligations.TransfersMoveTheirBytes : Prop :=
  ∀ s : State,
    (∀ v : Byte, memWrite s 0xFF46 v =
      { s with dma := { s.dma with
          oamDmaReg := v, transfer := some ⟨.objectMemory, 160, 0, BitVec.ofNat 16 (256 * v.toNat), 0⟩ } }) ∧
    (∀ v : Byte, memWrite s 0xFF55 v =
      { s with dma := { s.dma with
          transfer := some ⟨.general, (v.toNat % 128 + 1) * 16, 0, s.dma.hdmaSrc &&& 0xFFF0,
            s.dma.hdmaDst &&& 0x1FF0⟩ } }) ∧
    (∀ t : Transfer, s.dma.transfer = some t → t.kind = .objectMemory →
      dmaStep s =
        { s with
          oam := s.oam.write t.done (memRead s (t.src + BitVec.ofNat 16 t.done))
          dma := { s.dma with
            transfer := if t.done + 1 = t.length then none else some { t with done := t.done + 1 } } }) ∧
    (∀ t : Transfer, s.dma.transfer = some t → t.kind = .general →
      let base := vramBank s * 8192
      let b0 := memRead s (t.src + BitVec.ofNat 16 t.done)
      let s1 := { s with vram := s.vram.write (base + (t.dst.toNat + t.done) % 8192) b0 }
      let b1 := memRead s1 (t.src + BitVec.ofNat 16 (t.done + 1))
      dmaStep s =
        { s with
          vram := s1.vram.write (base + (t.dst.toNat + (t.done + 1)) % 8192) b1
          dma := { s.dma with
            transfer := if t.done + 2 = t.length then none else some { t with done := t.done + 2 } } })

/-- A general transfer stalls the CPU for exactly the DMA steps it still needs: two bytes a step, then it is gone. -/
def Obligations.GeneralTransferEnds : Prop :=
  ∀ (s : State) (t : Transfer), s.dma.transfer = some t → t.kind = .general → TransferOk t →
    (dmaStep^[(t.length - t.done) / 2] s).dma.transfer = none ∧
      ∀ k < (t.length - t.done) / 2, (dmaStep^[k] s).dma.stalled = true

/-- A visible line takes 114 video steps: 21 of OamSearch, 43 of Transfer, 50 of HBlank; then the next line begins. The
64th step renders the line's own row of the frame buffer, and no other, with what the registers and memories hold at
that step: the pixel at each column is the merged one of the renderer (`linePixel`) on that state; the window's line
counter moves on by the renderer's rule. The exact budgets are the spec's own decision (`92_eei_decisions.md` D29);
that the counter goes by the formula of R440 alone is the model's reading (notes/assumptions/16.md). -/
def Obligations.VisibleLineLasts114Cycles : Prop :=
  ∀ s : State, s.video.on = true → s.video.mode = .oamSearch → s.video.modeCycles = 0 → s.video.ly < 143 →
    let line := s.video.ly
    let m := videoStep^[63] s
    let row := (List.range 160).map (linePixel m (lineSprites m line) line)
    (∀ k < 114, (videoStep^[k] s).video.mode =
      if k < 21 then .oamSearch else if k < 64 then .transfer else .hBlank) ∧
    (∀ k < 64, (videoStep^[k] s).frameBuffer = s.frameBuffer) ∧
    (∀ k, 64 ≤ k → k ≤ 114 →
      (videoStep^[k] s).frameBuffer = (renderLine m line).frameBuffer ∧
      (videoStep^[k] s).frameBuffer = s.frameBuffer.set line (some row) ∧
      (videoStep^[k] s).video.windowLine = (renderLine m line).video.windowLine) ∧
    (renderLine m line).video.windowLine =
      s.video.windowLine +
        (if bit s.video.lcdc 5 = true ∧ s.video.wy.toNat ≤ line ∧ s.video.wx.toNat ≤ 166 then 1 else 0) ∧
    (videoStep^[114] s).video.mode = .oamSearch ∧ (videoStep^[114] s).video.modeCycles = 0 ∧
    (videoStep^[114] s).video.ly = line + 1

/-- The video controller's interrupts and the joypad's: VBlank on entering line 144; STAT on a rising edge of its line
and neither while it stays up nor while it stays down; a press of any button, whatever the select bits are, and never a release. Which bit is
whose, and the moment of VBlank, are the spec's own decisions (`92_eei_decisions.md` D11, D42, D50). -/
def Obligations.DeviceInterruptRequests : Prop :=
  ∀ s : State,
    (s.video.on = true → s.video.mode = .hBlank → s.video.modeCycles = 49 → s.video.ly = 143 →
      (videoStep s).video.mode = .vBlank ∧ (videoStep s).video.ly = 144 ∧ bit (videoStep s).irq.flags 0 = true) ∧
    (s.video.on = true → s.video.statLinePrev = true → bit s.irq.flags 1 = false →
      bit (videoStep s).irq.flags 1 = false) ∧
    (s.video.on = true → s.video.statLinePrev = false → (videoStep s).video.statLine = true →
      bit (videoStep s).irq.flags 1 = true) ∧
    (s.video.on = true → s.video.statLinePrev = false → (videoStep s).video.statLine = false →
      bit s.irq.flags 1 = false → bit (videoStep s).irq.flags 1 = false) ∧
    (∀ k : Button, bit (handleJoypad ⟨k, true⟩ s).irq.flags 4 = true ∧
      (handleJoypad ⟨k, true⟩ s).irq.ie = s.irq.ie ∧ (handleJoypad ⟨k, false⟩ s).irq = s.irq)

/-- Switching the display off resets the scanline position and the mode at once; while it is off a video step does
nothing; switching it on ends the host's frame early and white. The spec's own decision
(`92_eei_decisions.md` D31). -/
def Obligations.DisplaySwitch : Prop :=
  ∀ (s : State) (v : Byte),
    (s.video.on = true → bit v 7 = false →
      memWrite s 0xFF40 v =
        { s with video := { s.video with
            lcdc := v, ly := 0, mode := .oamSearch, modeCycles := 0, windowLine := 0, statLinePrev := false } }) ∧
    (s.video.on = false → videoStep s = s) ∧
    (s.video.on = false → bit v 7 = true →
      memWrite s 0xFF40 v = { s with video := { s.video with lcdc := v, frameBlank := true } }) ∧
    (s.cpu.fatal = none → s.video.frameBlank = true →
      (frameBoundary s).video.frameBlank = false ∧ (frameBoundary s).frameCycle = 0 ∧
        ∀ off < 160 * 144 * 4, frameByte (frameBoundary s) off = some 0xFF)

/-- With the sound power off: writes to 0xFF10-0xFF25 are ignored, NR52 reads 0x70, a sound step appends two silent
pairs; and a write that clears the power bit leaves, after the same cycle's sound step, every sound field at its reset
value but the kept divider bit. The spec's own decision (`92_eei_decisions.md` D38). -/
def Obligations.SoundPowerOff : Prop :=
  ∀ s : State,
    (s.sound.power = false →
      (∀ (a : Word) (v : Byte), 0xFF10 ≤ a.toNat → a.toNat ≤ 0xFF25 → memWrite s a v = s) ∧
      memRead s 0xFF26 = 0x70 ∧
      (soundStep s).audioOut = (0, 0) :: (0, 0) :: s.audioOut) ∧
    (∀ v : Byte, s.sound.power = true → bit v 7 = false →
      (soundStep (memWrite s 0xFF26 v)).sound =
        { Sound.reset with seqPrevBit := s.timer.divCounter.getLsbD 12 } ∧
      (soundStep (memWrite s 0xFF26 v)).waveRam = s.waveRam)

/-- Both sides of the mixer are integers between -480 and 480 over 960: magnitude at most one half. The numerator form
is the model's (notes/assumptions/10.md). -/
def Obligations.MixStaysInRange : Prop :=
  ∀ s : State, SoundOk s.sound →
    -480 ≤ (s.sound.mix s.params s.waveRam).1 ∧ (s.sound.mix s.params s.waveRam).1 ≤ 480 ∧
      -480 ≤ (s.sound.mix s.params s.waveRam).2 ∧ (s.sound.mix s.params s.waveRam).2 ≤ 480

/-- Writing one clock field replaces that field of the elapsed time, by the value at the field's width, and keeps the
rest, whether the clock runs or is halted; a second, minute or hour out of range carries into the next field. The
last field also writes the carry and the halt, and the elapsed time is kept when the halt changes. The snapshot's
field reads back what was written, of the last field bits 7, 6 and 0 (notes/assumptions/15.md, DEDUCED). The
snapshot's update and the carry are the spec's own decision (`92_eei_decisions.md` D41). -/
def Obligations.ClockFieldWrites : Prop :=
  ∀ (r : Rtc) (now : Nat) (v : Byte),
    let e := (r.normalise now).elapsed now
    let live (f : RtcField) : Nat := (r.writeField now f v).elapsed now
    let x := v.toNat % 64
    let y := v.toNat % 32
    e < 512 * 86400 ∧
    (x < 60 → secOf (live .seconds) = x ∧ live .seconds / 60 = e / 60) ∧
    (60 ≤ x → secOf (live .seconds) = x - 60 ∧ live .seconds / 60 = e / 60 + 1) ∧
    (x < 60 → secOf (live .minutes) = secOf e ∧ minOf (live .minutes) = x ∧ live .minutes / 3600 = e / 3600) ∧
    (60 ≤ x →
      secOf (live .minutes) = secOf e ∧ minOf (live .minutes) = x - 60 ∧ live .minutes / 3600 = e / 3600 + 1) ∧
    (y < 24 →
      secOf (live .hours) = secOf e ∧ minOf (live .hours) = minOf e ∧ hourOf (live .hours) = y ∧
        dayOf (live .hours) = dayOf e) ∧
    (24 ≤ y →
      secOf (live .hours) = secOf e ∧ minOf (live .hours) = minOf e ∧ hourOf (live .hours) = y - 24 ∧
        dayOf (live .hours) = dayOf e + 1) ∧
    (secOf (live .dayLow) = secOf e ∧ minOf (live .dayLow) = minOf e ∧ hourOf (live .dayLow) = hourOf e ∧
      dayOf (live .dayLow) = dayOf e / 256 * 256 + v.toNat) ∧
    (secOf (live .dayHigh) = secOf e ∧ minOf (live .dayHigh) = minOf e ∧ hourOf (live .dayHigh) = hourOf e ∧
      dayOf (live .dayHigh) = v.toNat % 2 * 256 + dayOf e % 256 ∧
      (r.writeField now .dayHigh v).carry = bit v 7 ∧ (r.writeField now .dayHigh v).halted = bit v 6) ∧
    (∀ f : RtcField, f ≠ .dayHigh →
      (r.writeField now f v).readField f = v ∧ (r.writeField now f v).halted = r.halted ∧
        (r.writeField now f v).carry = (r.normalise now).carry) ∧
    (r.writeField now .dayHigh v).readField .dayHigh = v &&& 0xC1

/-- A save loaded into a fresh cartridge of the same kind restores the RAM and, with a clock, the elapsed time, its
halt and its carry. The spec's own decision (`92_eei_decisions.md` D39). -/
def Obligations.SaveLoadRoundTrip : Prop :=
  ∀ (c fresh : Cart) (now later : Nat) (v : CartSave),
    ArrayOk c.ramSize c.ram → fresh.ram = [] → fresh.ramSize = c.ramSize → fresh.hasRtc = c.hasRtc →
    (c.save now).1 = some v →
    (fresh.loadSave later v).ram = c.ram ∧ (c.save now).2.ram = c.ram ∧
      (c.hasRtc = true →
        (fresh.loadSave later v).rtc.elapsed later = (c.rtc.normalise now).elapsed now ∧
        (fresh.loadSave later v).rtc.halted = c.rtc.halted ∧
        (fresh.loadSave later v).rtc.carry = (c.rtc.normalise now).carry)

/-! ## Reset and the invariant -/

/-- The values the spec gives for reset, field by field, and what the sound registers read then (R493). They are the
spec's own decisions (`92_eei_decisions.md` D13, D15, D38). -/
def Obligations.ResetValues : Prop :=
  let s := State.reset
  s.cpu = ⟨0, ⟨false, false, false, false⟩, 0, 0, 0, 0, 0, 0, 0, 0, false, 0, false, false, 0, none, false, false,
      s.cpu.fetchAddr⟩ ∧
    s.irq = ⟨0, 0⟩ ∧ s.boot.mapped = true ∧ s.bus = ⟨true, 0, 0, 0⟩ ∧
    s.cart.romBank = 1 ∧ s.cart.ramBank = 0 ∧ s.cart.ramEnabled = false ∧ s.cart.advanced = false ∧
    s.cart.rtc = ⟨0, false, 0, false, ⟨0, 0, 0, 0, false, false⟩, 0xFF, none⟩ ∧
    (∀ i, Memory.read s.vram i = 0 ∧ Memory.read s.wram i = 0 ∧ Memory.read s.oam i = 0 ∧ Memory.read s.hram i = 0 ∧
      Memory.read s.bgPalette i = 0 ∧ Memory.read s.objPalette i = 0 ∧ Memory.read s.waveRam i = 0 ∧
      Memory.read s.cart.ram i = 0) ∧
    s.timer = ⟨0, 0, 0, 0⟩ ∧ s.dma = ⟨none, 0, 0, 0⟩ ∧
    s.video = ⟨.oamSearch, 0, 0, false, 0, false, 0, 0, 0, 0, 0, 0, 0, 0, 0, 0, 0, 0, 0⟩ ∧ s.sound = Sound.reset ∧
    s.sound.ch1 = ⟨false, 0, 0, false, 0, 0, 0, ⟨0, false, 0, 0, false, 0, 0⟩⟩ ∧ s.sound.sweep = ⟨0, false, 0, 0⟩ ∧
    s.sound.ch2 = ⟨false, 0, 0, false, 0, 0, 0, ⟨0, false, 0, 0, false, 0, 0⟩⟩ ∧
    s.sound.ch3 = ⟨false, 0, 0, false, 0, false, 0, 0⟩ ∧
    s.sound.ch4 = ⟨false, 0, 0, false, ⟨0, false, 0, 0, false, 0, 0⟩, 0, 0, false, 0⟩ ∧
    s.sound.power = false ∧ s.sound.nr50 = 0 ∧ s.sound.nr51 = 0 ∧ s.sound.seqCounter = 0 ∧
    s.sound.seqPrevBit = false ∧ s.sound.powerOffPending = false ∧
    (∀ r, s.sound.readReg r = s.sound.readOn r) ∧
    (∀ e ∈ [(0x10, 0x80), (0x11, 0x3F), (0x12, 0x00), (0x13, 0xFF), (0x14, 0xBF), (0x16, 0x3F), (0x17, 0x00),
        (0x18, 0xFF), (0x19, 0xBF), (0x1A, 0x7F), (0x1B, 0xFF), (0x1C, 0x9F), (0x1D, 0xFF), (0x1E, 0xBF), (0x20, 0xFF),
        (0x21, 0x00), (0x22, 0x00), (0x23, 0xBF), (0x24, 0x00), (0x25, 0x00), (0x26, 0x70)],
      memRead s (BitVec.ofNat 16 (0xFF00 + e.1)) = BitVec.ofNat 8 e.2) ∧
    s.joypad = ⟨⟨false, false, false, false, false, false, false, false⟩, 0⟩ ∧ s.frameCycle = 0 ∧ s.audioOut = []

/-- The invariant holds at reset. -/
def Obligations.ResetMeetsTheInvariant : Prop := Inv State.reset

/-- Every System the host can construct from an image holds the registers and the RAM the host chose (`RESET_REGS`, an open
parameter, R10, `92_eei_decisions.md` D13), the low nibble of `F` apart, and meets the invariant; so does the start
without a boot image that the host may choose. -/
def Obligations.LoadedSystemMeetsTheInvariant : Prop :=
  ∀ (c : HostConfig) (image : List Byte) (s : State), loadCartridge c image = .ok s →
    let r := c.resetRegs
    s.cpu = { State.reset.cpu with
      a := r.a, b := r.b, c := r.c, d := r.d, e := r.e, h := r.h, l := r.l, sp := r.sp
      f := ⟨bit r.f 7, bit r.f 6, bit r.f 5, bit r.f 4⟩ } ∧
    (∀ i < 16384, Memory.read s.vram i = r.vram.getD i 0) ∧ (∀ i < 32768, Memory.read s.wram i = r.wram.getD i 0) ∧
    (∀ i < 160, Memory.read s.oam i = r.oam.getD i 0) ∧ (∀ i < 127, Memory.read s.hram i = r.hram.getD i 0) ∧
    (∀ i < 64, Memory.read s.bgPalette i = r.bgPalette.getD i 0 ∧
      Memory.read s.objPalette i = r.objPalette.getD i 0) ∧
    (∀ i < 16, Memory.read s.waveRam i = r.waveRam.getD i 0) ∧
    (∀ i < s.cart.ramSize, Memory.read s.cart.ram i = r.cartRam.getD i 0) ∧
    Inv s ∧ ∀ (e : Bool) (a b c' d e' h l : Byte) (f : Flags), Inv (launchWithoutBoot s e a b c' d e' h l f)

/-- Every step keeps the invariant: the storage arrays keep their one form and size, the hard-wired and derived ranges
hold, a transfer in progress has bytes left, an enabled channel has its converter on. -/
def Obligations.EveryStepKeepsTheInvariant : Prop := ∀ s t : State, Inv s → step s = .next t → Inv t
end

