-- ==== Sys2Proof/Laws/Memory.lean ====
section
/-! SUPPORT. What reading and writing a storage array do, and that writing keeps the one form. -/

namespace Sys2Proof.Machine

@[simp] theorem Memory.read_nil (i : Nat) : Memory.read [] i = 0#8 := rfl

theorem Memory.read_of_lt (m : Memory) : ∀ lo, Memory.risingFrom lo m = true → ∀ i < lo, Memory.read m i = 0#8 := by
  induction m with
  | nil => intros; rfl
  | cons c rest ih =>
    obtain ⟨k, v⟩ := c
    intro lo h i hi
    simp only [Memory.risingFrom, Bool.and_eq_true, decide_eq_true_eq] at h
    have : i ≠ k := by omega
    have h2 : i < k := by omega
    simp [Memory.read, this, h2]

theorem Memory.rising_mono (m : Memory) {lo lo' : Nat} (hle : lo' ≤ lo) (h : Memory.risingFrom lo m = true) :
    Memory.risingFrom lo' m = true := by
  cases m with
  | nil => rfl
  | cons c rest =>
    simp only [Memory.risingFrom, Bool.and_eq_true, decide_eq_true_eq] at h ⊢
    exact ⟨⟨by omega, h.1.2⟩, h.2⟩

/-- A write keeps the form. -/
theorem Memory.rising_write (m : Memory) : ∀ lo, Memory.risingFrom lo m = true → ∀ i v, lo ≤ i →
    Memory.risingFrom lo (m.write i v) = true := by
  induction m with
  | nil =>
    intro lo _ i v hi
    by_cases hv : v = 0#8 <;> simp [Memory.write, Memory.risingFrom, hv, hi]
  | cons c rest ih =>
    obtain ⟨k, w⟩ := c
    intro lo h i v hi
    simp only [Memory.risingFrom, Bool.and_eq_true, decide_eq_true_eq] at h
    obtain ⟨⟨hk, hw⟩, hr⟩ := h
    unfold Memory.write
    split
    · split
      · simp [Memory.risingFrom, hk, hw, hr]
      · rename_i hlt hv
        have : i + 1 ≤ k := hlt
        simp [Memory.risingFrom, hi, hv, hw, hr, this]
    · split
      · split
        · exact Memory.rising_mono rest (by omega) hr
        · rename_i hik hv
          subst hik
          simp [Memory.risingFrom, hi, hv, hr]
      · have hki : k + 1 ≤ i := by omega
        simp [Memory.risingFrom, hk, hw, ih (k + 1) hr i v hki]

/-- Reading after a write: the written offset gives the byte written, every other offset what it gave before. -/
theorem Memory.read_write (m : Memory) : ∀ lo, Memory.risingFrom lo m = true → ∀ i v j,
    Memory.read (m.write i v) j = if j = i then v else Memory.read m j := by
  induction m with
  | nil =>
    intro lo _ i v j
    by_cases hv : v = 0#8 <;> by_cases hj : j = i <;> simp [Memory.write, Memory.read, hv, hj]
  | cons c rest ih =>
    obtain ⟨k, w⟩ := c
    intro lo h i v j
    simp only [Memory.risingFrom, Bool.and_eq_true, decide_eq_true_eq] at h
    obtain ⟨⟨hk, hw⟩, hr⟩ := h
    unfold Memory.write
    split
    · rename_i hik
      split
      · rename_i hv
        subst hv
        by_cases hj : j = i
        · subst hj
          have h1 : j ≠ k := by omega
          simp [Memory.read, h1, hik]
        · simp [hj]
      · by_cases hj : j = i
        · simp [Memory.read, hj]
        · by_cases hlt : j < i
          · have h1 : j ≠ k := by omega
            have h2 : j < k := by omega
            simp [Memory.read, hj, hlt, h1, h2]
          · simp [Memory.read, hj, hlt]
    · rename_i hik
      split
      · rename_i hik2
        subst hik2
        split
        · rename_i hv
          subst hv
          by_cases hj : j = i
          · subst hj
            simp [Memory.read_of_lt rest (j + 1) hr j (by omega)]
          · by_cases hlt : j < i
            · simp [Memory.read, hj, hlt, Memory.read_of_lt rest (i + 1) hr j (by omega)]
            · simp [Memory.read, hj, hlt]
        · by_cases hj : j = i
          · simp [Memory.read, hj]
          · simp [Memory.read, hj]
      · have hki : k < i := by omega
        by_cases hj : j = k
        · have : j ≠ i := by omega
          simp [Memory.read, hj, show k ≠ i by omega]
        · by_cases hlt : j < k
          · have : j ≠ i := by omega
            simp [Memory.read, hj, hlt, this]
          · simp [Memory.read, hj, hlt, ih (k + 1) hr i v j]

theorem Memory.wf_write {m : Memory} (h : m.wf = true) (i : Nat) (v : Byte) : (m.write i v).wf = true :=
  Memory.rising_write m 0 h i v (Nat.zero_le i)

theorem Memory.read_write_of_wf {m : Memory} (h : m.wf = true) (i : Nat) (v : Byte) (j : Nat) :
    Memory.read (m.write i v) j = if j = i then v else Memory.read m j :=
  Memory.read_write m 0 h i v j

/-- A write below the size of the array stays below it. -/
theorem Memory.below_write {n : Nat} {m : Memory} (h : m.below n = true) {i : Nat} (hi : i < n) (v : Byte) :
    (m.write i v).below n = true := by
  induction m with
  | nil => by_cases hv : v = 0#8 <;> simp [Memory.write, Memory.below, hv, hi]
  | cons c rest ih =>
    obtain ⟨k, w⟩ := c
    simp only [Memory.below, List.all_cons, Bool.and_eq_true, decide_eq_true_eq] at h ih ⊢
    unfold Memory.write
    split
    · split
      · simpa only [List.all_cons, Bool.and_eq_true, decide_eq_true_eq] using h
      · simpa only [List.all_cons, Bool.and_eq_true, decide_eq_true_eq] using ⟨hi, h⟩
    · split
      · split
        · exact h.2
        · simpa only [List.all_cons, Bool.and_eq_true, decide_eq_true_eq] using ⟨hi, h.2⟩
      · simp only [List.all_cons, Bool.and_eq_true, decide_eq_true_eq]
        exact ⟨h.1, ih h.2⟩

/-- Two arrays in the one form that read alike everywhere are the same list. -/
theorem Memory.ext_of_rising (m : Memory) : ∀ (lo : Nat) (m' : Memory), Memory.risingFrom lo m = true →
    Memory.risingFrom lo m' = true → (∀ i, Memory.read m i = Memory.read m' i) → m = m' := by
  induction m with
  | nil =>
    intro lo m' _ h' he
    cases m' with
    | nil => rfl
    | cons c rest =>
      obtain ⟨k, v⟩ := c
      simp only [Memory.risingFrom, Bool.and_eq_true, decide_eq_true_eq] at h'
      have := he k
      simp [Memory.read] at this
      exact absurd this.symm h'.1.2
  | cons c rest ih =>
    obtain ⟨k, v⟩ := c
    intro lo m' h h' he
    simp only [Memory.risingFrom, Bool.and_eq_true, decide_eq_true_eq] at h
    cases m' with
    | nil =>
      have := he k
      simp [Memory.read] at this
      exact absurd this h.1.2
    | cons c' rest' =>
      obtain ⟨k', v'⟩ := c'
      simp only [Memory.risingFrom, Bool.and_eq_true, decide_eq_true_eq] at h'
      have hk : k = k' := by
        by_contra hne
        rcases Nat.lt_or_gt_of_ne hne with hlt | hlt
        · have := he k
          simp [Memory.read, hne, hlt] at this
          exact h.1.2 this
        · have := he k'
          simp [Memory.read, Ne.symm hne, hlt] at this
          exact h'.1.2 this.symm
      subst hk
      have hv : v = v' := by simpa [Memory.read] using he k
      subst hv
      congr 1
      refine ih (k + 1) rest' h.2 h'.2 fun i => ?_
      by_cases hi : i < k + 1
      · rw [Memory.read_of_lt rest (k + 1) h.2 i hi, Memory.read_of_lt rest' (k + 1) h'.2 i hi]
      · have h1 : i ≠ k := by omega
        have h2 : ¬ i < k := by omega
        simpa [Memory.read, h1, h2] using he i

/-- Arrays that read alike are equal data. -/
theorem Memory.ext_of_wf {m m' : Memory} (h : m.wf = true) (h' : m'.wf = true)
    (he : ∀ i, Memory.read m i = Memory.read m' i) : m = m' :=
  Memory.ext_of_rising m 0 m' h h' he

/-- An array built from bytes is in the one form. -/
theorem Memory.rising_ofBytesFrom (bs : List Byte) : ∀ i, Memory.risingFrom i (Memory.ofBytesFrom i bs) = true := by
  induction bs with
  | nil => intro i; rfl
  | cons v rest ih =>
    intro i
    unfold Memory.ofBytesFrom
    split
    · exact Memory.rising_mono _ (Nat.le_succ i) (ih (i + 1))
    · rename_i hv
      simp [Memory.risingFrom, hv, ih (i + 1)]

/-- An array built from bytes reads as the bytes, and 0x00 around them. -/
theorem Memory.read_ofBytesFrom (bs : List Byte) :
    ∀ i j, Memory.read (Memory.ofBytesFrom i bs) j = if i ≤ j then bs.getD (j - i) 0 else 0 := by
  induction bs with
  | nil => intro i j; simp [Memory.ofBytesFrom]
  | cons v rest ih =>
    intro i j
    have hr := ih (i + 1) j
    rcases Nat.lt_trichotomy j i with h | rfl | h
    · rw [if_neg (by omega)] at hr ⊢
      by_cases hv : v = 0#8 <;> simp [Memory.ofBytesFrom, hv, hr, Memory.read, h, Nat.ne_of_lt h]
    · rw [if_neg (by omega)] at hr
      by_cases hv : v = 0#8 <;> simp [Memory.ofBytesFrom, hv, hr, Memory.read]
    · obtain ⟨k, rfl⟩ : ∃ k, j = i + 1 + k := ⟨j - (i + 1), by omega⟩
      have h1 : i + 1 + k - i = k + 1 := by omega
      have h2 : ¬ i + 1 + k = i := by omega
      have h3 : ¬ i + 1 + k < i := by omega
      rw [if_pos (by omega)] at hr ⊢
      by_cases hv : v = 0#8 <;> simp_all [Memory.ofBytesFrom, Memory.read]

/-- An array built from bytes lists no offset beyond them. -/
theorem Memory.below_ofBytesFrom (n : Nat) (bs : List Byte) :
    ∀ i, i + bs.length ≤ n → (Memory.ofBytesFrom i bs).below n = true := by
  induction bs with
  | nil => intro i _; rfl
  | cons v rest ih =>
    intro i h
    have h' : i + (rest.length + 1) ≤ n := h
    have hr := ih (i + 1) (by omega)
    unfold Memory.ofBytesFrom
    split
    · exact hr
    · simp only [Memory.below, List.all_cons, Bool.and_eq_true, decide_eq_true_eq]
      exact ⟨by omega, hr⟩

end Sys2Proof.Machine
end

