-- ==== Sys2Proof/Laws/State.lean ====
section
/-! SUPPORT. One lemma per field per update of the state, and reading back what an update wrote. -/

namespace Sys2Proof.Machine

@[simp] theorem State.setReg_irq (s : State) (r : Reg8) (v : Byte) : (s.setReg r v).irq = s.irq := by cases r <;> rfl
@[simp] theorem State.setReg_boot (s : State) (r : Reg8) (v : Byte) : (s.setReg r v).boot = s.boot := by cases r <;> rfl
@[simp] theorem State.setReg_bus (s : State) (r : Reg8) (v : Byte) : (s.setReg r v).bus = s.bus := by cases r <;> rfl
@[simp] theorem State.setReg_cart (s : State) (r : Reg8) (v : Byte) : (s.setReg r v).cart = s.cart := by cases r <;> rfl
@[simp] theorem State.setReg_vram (s : State) (r : Reg8) (v : Byte) : (s.setReg r v).vram = s.vram := by cases r <;> rfl
@[simp] theorem State.setReg_wram (s : State) (r : Reg8) (v : Byte) : (s.setReg r v).wram = s.wram := by cases r <;> rfl
@[simp] theorem State.setReg_oam (s : State) (r : Reg8) (v : Byte) : (s.setReg r v).oam = s.oam := by cases r <;> rfl
@[simp] theorem State.setReg_hram (s : State) (r : Reg8) (v : Byte) : (s.setReg r v).hram = s.hram := by cases r <;> rfl
@[simp] theorem State.setReg_bgPalette (s : State) (r : Reg8) (v : Byte) : (s.setReg r v).bgPalette = s.bgPalette := by cases r <;> rfl
@[simp] theorem State.setReg_objPalette (s : State) (r : Reg8) (v : Byte) : (s.setReg r v).objPalette = s.objPalette := by cases r <;> rfl
@[simp] theorem State.setReg_waveRam (s : State) (r : Reg8) (v : Byte) : (s.setReg r v).waveRam = s.waveRam := by cases r <;> rfl
@[simp] theorem State.setReg_timer (s : State) (r : Reg8) (v : Byte) : (s.setReg r v).timer = s.timer := by cases r <;> rfl
@[simp] theorem State.setReg_dma (s : State) (r : Reg8) (v : Byte) : (s.setReg r v).dma = s.dma := by cases r <;> rfl
@[simp] theorem State.setReg_video (s : State) (r : Reg8) (v : Byte) : (s.setReg r v).video = s.video := by cases r <;> rfl
@[simp] theorem State.setReg_sound (s : State) (r : Reg8) (v : Byte) : (s.setReg r v).sound = s.sound := by cases r <;> rfl
@[simp] theorem State.setReg_joypad (s : State) (r : Reg8) (v : Byte) : (s.setReg r v).joypad = s.joypad := by cases r <;> rfl
@[simp] theorem State.setReg_frameCycle (s : State) (r : Reg8) (v : Byte) : (s.setReg r v).frameCycle = s.frameCycle := by cases r <;> rfl
@[simp] theorem State.setReg_frameBuffer (s : State) (r : Reg8) (v : Byte) : (s.setReg r v).frameBuffer = s.frameBuffer := by cases r <;> rfl
@[simp] theorem State.setReg_audioOut (s : State) (r : Reg8) (v : Byte) : (s.setReg r v).audioOut = s.audioOut := by cases r <;> rfl
@[simp] theorem State.setReg_params (s : State) (r : Reg8) (v : Byte) : (s.setReg r v).params = s.params := by cases r <;> rfl
@[simp] theorem State.setReg_now (s : State) (r : Reg8) (v : Byte) : (s.setReg r v).now = s.now := by cases r <;> rfl
@[simp] theorem State.setReg_inputs (s : State) (r : Reg8) (v : Byte) : (s.setReg r v).inputs = s.inputs := by cases r <;> rfl

@[simp] theorem State.setFlags_irq (s : State) (f : Flags) : (s.setFlags f).irq = s.irq := rfl
@[simp] theorem State.setFlags_boot (s : State) (f : Flags) : (s.setFlags f).boot = s.boot := rfl
@[simp] theorem State.setFlags_bus (s : State) (f : Flags) : (s.setFlags f).bus = s.bus := rfl
@[simp] theorem State.setFlags_cart (s : State) (f : Flags) : (s.setFlags f).cart = s.cart := rfl
@[simp] theorem State.setFlags_vram (s : State) (f : Flags) : (s.setFlags f).vram = s.vram := rfl
@[simp] theorem State.setFlags_wram (s : State) (f : Flags) : (s.setFlags f).wram = s.wram := rfl
@[simp] theorem State.setFlags_oam (s : State) (f : Flags) : (s.setFlags f).oam = s.oam := rfl
@[simp] theorem State.setFlags_hram (s : State) (f : Flags) : (s.setFlags f).hram = s.hram := rfl
@[simp] theorem State.setFlags_bgPalette (s : State) (f : Flags) : (s.setFlags f).bgPalette = s.bgPalette := rfl
@[simp] theorem State.setFlags_objPalette (s : State) (f : Flags) : (s.setFlags f).objPalette = s.objPalette := rfl
@[simp] theorem State.setFlags_waveRam (s : State) (f : Flags) : (s.setFlags f).waveRam = s.waveRam := rfl
@[simp] theorem State.setFlags_timer (s : State) (f : Flags) : (s.setFlags f).timer = s.timer := rfl
@[simp] theorem State.setFlags_dma (s : State) (f : Flags) : (s.setFlags f).dma = s.dma := rfl
@[simp] theorem State.setFlags_video (s : State) (f : Flags) : (s.setFlags f).video = s.video := rfl
@[simp] theorem State.setFlags_sound (s : State) (f : Flags) : (s.setFlags f).sound = s.sound := rfl
@[simp] theorem State.setFlags_joypad (s : State) (f : Flags) : (s.setFlags f).joypad = s.joypad := rfl
@[simp] theorem State.setFlags_frameCycle (s : State) (f : Flags) : (s.setFlags f).frameCycle = s.frameCycle := rfl
@[simp] theorem State.setFlags_frameBuffer (s : State) (f : Flags) : (s.setFlags f).frameBuffer = s.frameBuffer := rfl
@[simp] theorem State.setFlags_audioOut (s : State) (f : Flags) : (s.setFlags f).audioOut = s.audioOut := rfl
@[simp] theorem State.setFlags_params (s : State) (f : Flags) : (s.setFlags f).params = s.params := rfl
@[simp] theorem State.setFlags_now (s : State) (f : Flags) : (s.setFlags f).now = s.now := rfl
@[simp] theorem State.setFlags_inputs (s : State) (f : Flags) : (s.setFlags f).inputs = s.inputs := rfl

@[simp] theorem State.setPc_irq (s : State) (a : Word) : (s.setPc a).irq = s.irq := rfl
@[simp] theorem State.setPc_boot (s : State) (a : Word) : (s.setPc a).boot = s.boot := rfl
@[simp] theorem State.setPc_bus (s : State) (a : Word) : (s.setPc a).bus = s.bus := rfl
@[simp] theorem State.setPc_cart (s : State) (a : Word) : (s.setPc a).cart = s.cart := rfl
@[simp] theorem State.setPc_vram (s : State) (a : Word) : (s.setPc a).vram = s.vram := rfl
@[simp] theorem State.setPc_wram (s : State) (a : Word) : (s.setPc a).wram = s.wram := rfl
@[simp] theorem State.setPc_oam (s : State) (a : Word) : (s.setPc a).oam = s.oam := rfl
@[simp] theorem State.setPc_hram (s : State) (a : Word) : (s.setPc a).hram = s.hram := rfl
@[simp] theorem State.setPc_bgPalette (s : State) (a : Word) : (s.setPc a).bgPalette = s.bgPalette := rfl
@[simp] theorem State.setPc_objPalette (s : State) (a : Word) : (s.setPc a).objPalette = s.objPalette := rfl
@[simp] theorem State.setPc_waveRam (s : State) (a : Word) : (s.setPc a).waveRam = s.waveRam := rfl
@[simp] theorem State.setPc_timer (s : State) (a : Word) : (s.setPc a).timer = s.timer := rfl
@[simp] theorem State.setPc_dma (s : State) (a : Word) : (s.setPc a).dma = s.dma := rfl
@[simp] theorem State.setPc_video (s : State) (a : Word) : (s.setPc a).video = s.video := rfl
@[simp] theorem State.setPc_sound (s : State) (a : Word) : (s.setPc a).sound = s.sound := rfl
@[simp] theorem State.setPc_joypad (s : State) (a : Word) : (s.setPc a).joypad = s.joypad := rfl
@[simp] theorem State.setPc_frameCycle (s : State) (a : Word) : (s.setPc a).frameCycle = s.frameCycle := rfl
@[simp] theorem State.setPc_frameBuffer (s : State) (a : Word) : (s.setPc a).frameBuffer = s.frameBuffer := rfl
@[simp] theorem State.setPc_audioOut (s : State) (a : Word) : (s.setPc a).audioOut = s.audioOut := rfl
@[simp] theorem State.setPc_params (s : State) (a : Word) : (s.setPc a).params = s.params := rfl
@[simp] theorem State.setPc_now (s : State) (a : Word) : (s.setPc a).now = s.now := rfl
@[simp] theorem State.setPc_inputs (s : State) (a : Word) : (s.setPc a).inputs = s.inputs := rfl

@[simp] theorem State.setSp_irq (s : State) (a : Word) : (s.setSp a).irq = s.irq := rfl
@[simp] theorem State.setSp_boot (s : State) (a : Word) : (s.setSp a).boot = s.boot := rfl
@[simp] theorem State.setSp_bus (s : State) (a : Word) : (s.setSp a).bus = s.bus := rfl
@[simp] theorem State.setSp_cart (s : State) (a : Word) : (s.setSp a).cart = s.cart := rfl
@[simp] theorem State.setSp_vram (s : State) (a : Word) : (s.setSp a).vram = s.vram := rfl
@[simp] theorem State.setSp_wram (s : State) (a : Word) : (s.setSp a).wram = s.wram := rfl
@[simp] theorem State.setSp_oam (s : State) (a : Word) : (s.setSp a).oam = s.oam := rfl
@[simp] theorem State.setSp_hram (s : State) (a : Word) : (s.setSp a).hram = s.hram := rfl
@[simp] theorem State.setSp_bgPalette (s : State) (a : Word) : (s.setSp a).bgPalette = s.bgPalette := rfl
@[simp] theorem State.setSp_objPalette (s : State) (a : Word) : (s.setSp a).objPalette = s.objPalette := rfl
@[simp] theorem State.setSp_waveRam (s : State) (a : Word) : (s.setSp a).waveRam = s.waveRam := rfl
@[simp] theorem State.setSp_timer (s : State) (a : Word) : (s.setSp a).timer = s.timer := rfl
@[simp] theorem State.setSp_dma (s : State) (a : Word) : (s.setSp a).dma = s.dma := rfl
@[simp] theorem State.setSp_video (s : State) (a : Word) : (s.setSp a).video = s.video := rfl
@[simp] theorem State.setSp_sound (s : State) (a : Word) : (s.setSp a).sound = s.sound := rfl
@[simp] theorem State.setSp_joypad (s : State) (a : Word) : (s.setSp a).joypad = s.joypad := rfl
@[simp] theorem State.setSp_frameCycle (s : State) (a : Word) : (s.setSp a).frameCycle = s.frameCycle := rfl
@[simp] theorem State.setSp_frameBuffer (s : State) (a : Word) : (s.setSp a).frameBuffer = s.frameBuffer := rfl
@[simp] theorem State.setSp_audioOut (s : State) (a : Word) : (s.setSp a).audioOut = s.audioOut := rfl
@[simp] theorem State.setSp_params (s : State) (a : Word) : (s.setSp a).params = s.params := rfl
@[simp] theorem State.setSp_now (s : State) (a : Word) : (s.setSp a).now = s.now := rfl
@[simp] theorem State.setSp_inputs (s : State) (a : Word) : (s.setSp a).inputs = s.inputs := rfl

@[simp] theorem State.setPair_irq (s : State) (p : Pair) (v : Word) : (s.setPair p v).irq = s.irq := by cases p <;> rfl
@[simp] theorem State.setPair_boot (s : State) (p : Pair) (v : Word) : (s.setPair p v).boot = s.boot := by cases p <;> rfl
@[simp] theorem State.setPair_bus (s : State) (p : Pair) (v : Word) : (s.setPair p v).bus = s.bus := by cases p <;> rfl
@[simp] theorem State.setPair_cart (s : State) (p : Pair) (v : Word) : (s.setPair p v).cart = s.cart := by cases p <;> rfl
@[simp] theorem State.setPair_vram (s : State) (p : Pair) (v : Word) : (s.setPair p v).vram = s.vram := by cases p <;> rfl
@[simp] theorem State.setPair_wram (s : State) (p : Pair) (v : Word) : (s.setPair p v).wram = s.wram := by cases p <;> rfl
@[simp] theorem State.setPair_oam (s : State) (p : Pair) (v : Word) : (s.setPair p v).oam = s.oam := by cases p <;> rfl
@[simp] theorem State.setPair_hram (s : State) (p : Pair) (v : Word) : (s.setPair p v).hram = s.hram := by cases p <;> rfl
@[simp] theorem State.setPair_bgPalette (s : State) (p : Pair) (v : Word) : (s.setPair p v).bgPalette = s.bgPalette := by cases p <;> rfl
@[simp] theorem State.setPair_objPalette (s : State) (p : Pair) (v : Word) : (s.setPair p v).objPalette = s.objPalette := by cases p <;> rfl
@[simp] theorem State.setPair_waveRam (s : State) (p : Pair) (v : Word) : (s.setPair p v).waveRam = s.waveRam := by cases p <;> rfl
@[simp] theorem State.setPair_timer (s : State) (p : Pair) (v : Word) : (s.setPair p v).timer = s.timer := by cases p <;> rfl
@[simp] theorem State.setPair_dma (s : State) (p : Pair) (v : Word) : (s.setPair p v).dma = s.dma := by cases p <;> rfl
@[simp] theorem State.setPair_video (s : State) (p : Pair) (v : Word) : (s.setPair p v).video = s.video := by cases p <;> rfl
@[simp] theorem State.setPair_sound (s : State) (p : Pair) (v : Word) : (s.setPair p v).sound = s.sound := by cases p <;> rfl
@[simp] theorem State.setPair_joypad (s : State) (p : Pair) (v : Word) : (s.setPair p v).joypad = s.joypad := by cases p <;> rfl
@[simp] theorem State.setPair_frameCycle (s : State) (p : Pair) (v : Word) : (s.setPair p v).frameCycle = s.frameCycle := by cases p <;> rfl
@[simp] theorem State.setPair_frameBuffer (s : State) (p : Pair) (v : Word) : (s.setPair p v).frameBuffer = s.frameBuffer := by cases p <;> rfl
@[simp] theorem State.setPair_audioOut (s : State) (p : Pair) (v : Word) : (s.setPair p v).audioOut = s.audioOut := by cases p <;> rfl
@[simp] theorem State.setPair_params (s : State) (p : Pair) (v : Word) : (s.setPair p v).params = s.params := by cases p <;> rfl
@[simp] theorem State.setPair_now (s : State) (p : Pair) (v : Word) : (s.setPair p v).now = s.now := by cases p <;> rfl
@[simp] theorem State.setPair_inputs (s : State) (p : Pair) (v : Word) : (s.setPair p v).inputs = s.inputs := by cases p <;> rfl

@[simp] theorem State.setStackPair_irq (s : State) (p : StackPair) (v : Word) : (s.setStackPair p v).irq = s.irq := by cases p <;> rfl
@[simp] theorem State.setStackPair_boot (s : State) (p : StackPair) (v : Word) : (s.setStackPair p v).boot = s.boot := by cases p <;> rfl
@[simp] theorem State.setStackPair_bus (s : State) (p : StackPair) (v : Word) : (s.setStackPair p v).bus = s.bus := by cases p <;> rfl
@[simp] theorem State.setStackPair_cart (s : State) (p : StackPair) (v : Word) : (s.setStackPair p v).cart = s.cart := by cases p <;> rfl
@[simp] theorem State.setStackPair_vram (s : State) (p : StackPair) (v : Word) : (s.setStackPair p v).vram = s.vram := by cases p <;> rfl
@[simp] theorem State.setStackPair_wram (s : State) (p : StackPair) (v : Word) : (s.setStackPair p v).wram = s.wram := by cases p <;> rfl
@[simp] theorem State.setStackPair_oam (s : State) (p : StackPair) (v : Word) : (s.setStackPair p v).oam = s.oam := by cases p <;> rfl
@[simp] theorem State.setStackPair_hram (s : State) (p : StackPair) (v : Word) : (s.setStackPair p v).hram = s.hram := by cases p <;> rfl
@[simp] theorem State.setStackPair_bgPalette (s : State) (p : StackPair) (v : Word) : (s.setStackPair p v).bgPalette = s.bgPalette := by cases p <;> rfl
@[simp] theorem State.setStackPair_objPalette (s : State) (p : StackPair) (v : Word) : (s.setStackPair p v).objPalette = s.objPalette := by cases p <;> rfl
@[simp] theorem State.setStackPair_waveRam (s : State) (p : StackPair) (v : Word) : (s.setStackPair p v).waveRam = s.waveRam := by cases p <;> rfl
@[simp] theorem State.setStackPair_timer (s : State) (p : StackPair) (v : Word) : (s.setStackPair p v).timer = s.timer := by cases p <;> rfl
@[simp] theorem State.setStackPair_dma (s : State) (p : StackPair) (v : Word) : (s.setStackPair p v).dma = s.dma := by cases p <;> rfl
@[simp] theorem State.setStackPair_video (s : State) (p : StackPair) (v : Word) : (s.setStackPair p v).video = s.video := by cases p <;> rfl
@[simp] theorem State.setStackPair_sound (s : State) (p : StackPair) (v : Word) : (s.setStackPair p v).sound = s.sound := by cases p <;> rfl
@[simp] theorem State.setStackPair_joypad (s : State) (p : StackPair) (v : Word) : (s.setStackPair p v).joypad = s.joypad := by cases p <;> rfl
@[simp] theorem State.setStackPair_frameCycle (s : State) (p : StackPair) (v : Word) : (s.setStackPair p v).frameCycle = s.frameCycle := by cases p <;> rfl
@[simp] theorem State.setStackPair_frameBuffer (s : State) (p : StackPair) (v : Word) : (s.setStackPair p v).frameBuffer = s.frameBuffer := by cases p <;> rfl
@[simp] theorem State.setStackPair_audioOut (s : State) (p : StackPair) (v : Word) : (s.setStackPair p v).audioOut = s.audioOut := by cases p <;> rfl
@[simp] theorem State.setStackPair_params (s : State) (p : StackPair) (v : Word) : (s.setStackPair p v).params = s.params := by cases p <;> rfl
@[simp] theorem State.setStackPair_now (s : State) (p : StackPair) (v : Word) : (s.setStackPair p v).now = s.now := by cases p <;> rfl
@[simp] theorem State.setStackPair_inputs (s : State) (p : StackPair) (v : Word) : (s.setStackPair p v).inputs = s.inputs := by cases p <;> rfl

@[simp] theorem State.request_cpu (s : State) (k : Nat) : (s.request k).cpu = s.cpu := rfl
@[simp] theorem State.request_boot (s : State) (k : Nat) : (s.request k).boot = s.boot := rfl
@[simp] theorem State.request_bus (s : State) (k : Nat) : (s.request k).bus = s.bus := rfl
@[simp] theorem State.request_cart (s : State) (k : Nat) : (s.request k).cart = s.cart := rfl
@[simp] theorem State.request_vram (s : State) (k : Nat) : (s.request k).vram = s.vram := rfl
@[simp] theorem State.request_wram (s : State) (k : Nat) : (s.request k).wram = s.wram := rfl
@[simp] theorem State.request_oam (s : State) (k : Nat) : (s.request k).oam = s.oam := rfl
@[simp] theorem State.request_hram (s : State) (k : Nat) : (s.request k).hram = s.hram := rfl
@[simp] theorem State.request_bgPalette (s : State) (k : Nat) : (s.request k).bgPalette = s.bgPalette := rfl
@[simp] theorem State.request_objPalette (s : State) (k : Nat) : (s.request k).objPalette = s.objPalette := rfl
@[simp] theorem State.request_waveRam (s : State) (k : Nat) : (s.request k).waveRam = s.waveRam := rfl
@[simp] theorem State.request_timer (s : State) (k : Nat) : (s.request k).timer = s.timer := rfl
@[simp] theorem State.request_dma (s : State) (k : Nat) : (s.request k).dma = s.dma := rfl
@[simp] theorem State.request_video (s : State) (k : Nat) : (s.request k).video = s.video := rfl
@[simp] theorem State.request_sound (s : State) (k : Nat) : (s.request k).sound = s.sound := rfl
@[simp] theorem State.request_joypad (s : State) (k : Nat) : (s.request k).joypad = s.joypad := rfl
@[simp] theorem State.request_frameCycle (s : State) (k : Nat) : (s.request k).frameCycle = s.frameCycle := rfl
@[simp] theorem State.request_frameBuffer (s : State) (k : Nat) : (s.request k).frameBuffer = s.frameBuffer := rfl
@[simp] theorem State.request_audioOut (s : State) (k : Nat) : (s.request k).audioOut = s.audioOut := rfl
@[simp] theorem State.request_params (s : State) (k : Nat) : (s.request k).params = s.params := rfl
@[simp] theorem State.request_now (s : State) (k : Nat) : (s.request k).now = s.now := rfl
@[simp] theorem State.request_inputs (s : State) (k : Nat) : (s.request k).inputs = s.inputs := rfl

@[simp] theorem State.setReg_cpu_f (s : State) (r : Reg8) (v : Byte) : (s.setReg r v).cpu.f = s.cpu.f := by cases r <;> rfl
@[simp] theorem State.setReg_cpu_sp (s : State) (r : Reg8) (v : Byte) : (s.setReg r v).cpu.sp = s.cpu.sp := by cases r <;> rfl
@[simp] theorem State.setReg_cpu_pc (s : State) (r : Reg8) (v : Byte) : (s.setReg r v).cpu.pc = s.cpu.pc := by cases r <;> rfl
@[simp] theorem State.setReg_cpu_ime (s : State) (r : Reg8) (v : Byte) : (s.setReg r v).cpu.ime = s.cpu.ime := by cases r <;> rfl
@[simp] theorem State.setReg_cpu_imeDelay (s : State) (r : Reg8) (v : Byte) : (s.setReg r v).cpu.imeDelay = s.cpu.imeDelay := by cases r <;> rfl
@[simp] theorem State.setReg_cpu_halted (s : State) (r : Reg8) (v : Byte) : (s.setReg r v).cpu.halted = s.cpu.halted := by cases r <;> rfl
@[simp] theorem State.setReg_cpu_haltBug (s : State) (r : Reg8) (v : Byte) : (s.setReg r v).cpu.haltBug = s.cpu.haltBug := by cases r <;> rfl
@[simp] theorem State.setReg_cpu_cyc (s : State) (r : Reg8) (v : Byte) : (s.setReg r v).cpu.cyc = s.cpu.cyc := by cases r <;> rfl
@[simp] theorem State.setReg_cpu_fatal (s : State) (r : Reg8) (v : Byte) : (s.setReg r v).cpu.fatal = s.cpu.fatal := by cases r <;> rfl
@[simp] theorem State.setReg_cpu_speedArmed (s : State) (r : Reg8) (v : Byte) : (s.setReg r v).cpu.speedArmed = s.cpu.speedArmed := by cases r <;> rfl
@[simp] theorem State.setReg_cpu_doubleSpeed (s : State) (r : Reg8) (v : Byte) : (s.setReg r v).cpu.doubleSpeed = s.cpu.doubleSpeed := by cases r <;> rfl
@[simp] theorem State.setReg_cpu_fetchAddr (s : State) (r : Reg8) (v : Byte) : (s.setReg r v).cpu.fetchAddr = s.cpu.fetchAddr := by cases r <;> rfl

@[simp] theorem State.setFlags_cpu_a (s : State) (f : Flags) : (s.setFlags f).cpu.a = s.cpu.a := rfl
@[simp] theorem State.setFlags_cpu_b (s : State) (f : Flags) : (s.setFlags f).cpu.b = s.cpu.b := rfl
@[simp] theorem State.setFlags_cpu_c (s : State) (f : Flags) : (s.setFlags f).cpu.c = s.cpu.c := rfl
@[simp] theorem State.setFlags_cpu_d (s : State) (f : Flags) : (s.setFlags f).cpu.d = s.cpu.d := rfl
@[simp] theorem State.setFlags_cpu_e (s : State) (f : Flags) : (s.setFlags f).cpu.e = s.cpu.e := rfl
@[simp] theorem State.setFlags_cpu_h (s : State) (f : Flags) : (s.setFlags f).cpu.h = s.cpu.h := rfl
@[simp] theorem State.setFlags_cpu_l (s : State) (f : Flags) : (s.setFlags f).cpu.l = s.cpu.l := rfl
@[simp] theorem State.setFlags_cpu_sp (s : State) (f : Flags) : (s.setFlags f).cpu.sp = s.cpu.sp := rfl
@[simp] theorem State.setFlags_cpu_pc (s : State) (f : Flags) : (s.setFlags f).cpu.pc = s.cpu.pc := rfl
@[simp] theorem State.setFlags_cpu_ime (s : State) (f : Flags) : (s.setFlags f).cpu.ime = s.cpu.ime := rfl
@[simp] theorem State.setFlags_cpu_imeDelay (s : State) (f : Flags) : (s.setFlags f).cpu.imeDelay = s.cpu.imeDelay := rfl
@[simp] theorem State.setFlags_cpu_halted (s : State) (f : Flags) : (s.setFlags f).cpu.halted = s.cpu.halted := rfl
@[simp] theorem State.setFlags_cpu_haltBug (s : State) (f : Flags) : (s.setFlags f).cpu.haltBug = s.cpu.haltBug := rfl
@[simp] theorem State.setFlags_cpu_cyc (s : State) (f : Flags) : (s.setFlags f).cpu.cyc = s.cpu.cyc := rfl
@[simp] theorem State.setFlags_cpu_fatal (s : State) (f : Flags) : (s.setFlags f).cpu.fatal = s.cpu.fatal := rfl
@[simp] theorem State.setFlags_cpu_speedArmed (s : State) (f : Flags) : (s.setFlags f).cpu.speedArmed = s.cpu.speedArmed := rfl
@[simp] theorem State.setFlags_cpu_doubleSpeed (s : State) (f : Flags) : (s.setFlags f).cpu.doubleSpeed = s.cpu.doubleSpeed := rfl
@[simp] theorem State.setFlags_cpu_fetchAddr (s : State) (f : Flags) : (s.setFlags f).cpu.fetchAddr = s.cpu.fetchAddr := rfl

@[simp] theorem State.setPc_cpu_a (s : State) (a : Word) : (s.setPc a).cpu.a = s.cpu.a := rfl
@[simp] theorem State.setPc_cpu_f (s : State) (a : Word) : (s.setPc a).cpu.f = s.cpu.f := rfl
@[simp] theorem State.setPc_cpu_b (s : State) (a : Word) : (s.setPc a).cpu.b = s.cpu.b := rfl
@[simp] theorem State.setPc_cpu_c (s : State) (a : Word) : (s.setPc a).cpu.c = s.cpu.c := rfl
@[simp] theorem State.setPc_cpu_d (s : State) (a : Word) : (s.setPc a).cpu.d = s.cpu.d := rfl
@[simp] theorem State.setPc_cpu_e (s : State) (a : Word) : (s.setPc a).cpu.e = s.cpu.e := rfl
@[simp] theorem State.setPc_cpu_h (s : State) (a : Word) : (s.setPc a).cpu.h = s.cpu.h := rfl
@[simp] theorem State.setPc_cpu_l (s : State) (a : Word) : (s.setPc a).cpu.l = s.cpu.l := rfl
@[simp] theorem State.setPc_cpu_sp (s : State) (a : Word) : (s.setPc a).cpu.sp = s.cpu.sp := rfl
@[simp] theorem State.setPc_cpu_ime (s : State) (a : Word) : (s.setPc a).cpu.ime = s.cpu.ime := rfl
@[simp] theorem State.setPc_cpu_imeDelay (s : State) (a : Word) : (s.setPc a).cpu.imeDelay = s.cpu.imeDelay := rfl
@[simp] theorem State.setPc_cpu_halted (s : State) (a : Word) : (s.setPc a).cpu.halted = s.cpu.halted := rfl
@[simp] theorem State.setPc_cpu_haltBug (s : State) (a : Word) : (s.setPc a).cpu.haltBug = s.cpu.haltBug := rfl
@[simp] theorem State.setPc_cpu_cyc (s : State) (a : Word) : (s.setPc a).cpu.cyc = s.cpu.cyc := rfl
@[simp] theorem State.setPc_cpu_fatal (s : State) (a : Word) : (s.setPc a).cpu.fatal = s.cpu.fatal := rfl
@[simp] theorem State.setPc_cpu_speedArmed (s : State) (a : Word) : (s.setPc a).cpu.speedArmed = s.cpu.speedArmed := rfl
@[simp] theorem State.setPc_cpu_doubleSpeed (s : State) (a : Word) : (s.setPc a).cpu.doubleSpeed = s.cpu.doubleSpeed := rfl
@[simp] theorem State.setPc_cpu_fetchAddr (s : State) (a : Word) : (s.setPc a).cpu.fetchAddr = s.cpu.fetchAddr := rfl

@[simp] theorem State.setSp_cpu_a (s : State) (a : Word) : (s.setSp a).cpu.a = s.cpu.a := rfl
@[simp] theorem State.setSp_cpu_f (s : State) (a : Word) : (s.setSp a).cpu.f = s.cpu.f := rfl
@[simp] theorem State.setSp_cpu_b (s : State) (a : Word) : (s.setSp a).cpu.b = s.cpu.b := rfl
@[simp] theorem State.setSp_cpu_c (s : State) (a : Word) : (s.setSp a).cpu.c = s.cpu.c := rfl
@[simp] theorem State.setSp_cpu_d (s : State) (a : Word) : (s.setSp a).cpu.d = s.cpu.d := rfl
@[simp] theorem State.setSp_cpu_e (s : State) (a : Word) : (s.setSp a).cpu.e = s.cpu.e := rfl
@[simp] theorem State.setSp_cpu_h (s : State) (a : Word) : (s.setSp a).cpu.h = s.cpu.h := rfl
@[simp] theorem State.setSp_cpu_l (s : State) (a : Word) : (s.setSp a).cpu.l = s.cpu.l := rfl
@[simp] theorem State.setSp_cpu_pc (s : State) (a : Word) : (s.setSp a).cpu.pc = s.cpu.pc := rfl
@[simp] theorem State.setSp_cpu_ime (s : State) (a : Word) : (s.setSp a).cpu.ime = s.cpu.ime := rfl
@[simp] theorem State.setSp_cpu_imeDelay (s : State) (a : Word) : (s.setSp a).cpu.imeDelay = s.cpu.imeDelay := rfl
@[simp] theorem State.setSp_cpu_halted (s : State) (a : Word) : (s.setSp a).cpu.halted = s.cpu.halted := rfl
@[simp] theorem State.setSp_cpu_haltBug (s : State) (a : Word) : (s.setSp a).cpu.haltBug = s.cpu.haltBug := rfl
@[simp] theorem State.setSp_cpu_cyc (s : State) (a : Word) : (s.setSp a).cpu.cyc = s.cpu.cyc := rfl
@[simp] theorem State.setSp_cpu_fatal (s : State) (a : Word) : (s.setSp a).cpu.fatal = s.cpu.fatal := rfl
@[simp] theorem State.setSp_cpu_speedArmed (s : State) (a : Word) : (s.setSp a).cpu.speedArmed = s.cpu.speedArmed := rfl
@[simp] theorem State.setSp_cpu_doubleSpeed (s : State) (a : Word) : (s.setSp a).cpu.doubleSpeed = s.cpu.doubleSpeed := rfl
@[simp] theorem State.setSp_cpu_fetchAddr (s : State) (a : Word) : (s.setSp a).cpu.fetchAddr = s.cpu.fetchAddr := rfl

@[simp] theorem State.setPair_cpu_a (s : State) (p : Pair) (v : Word) : (s.setPair p v).cpu.a = s.cpu.a := by cases p <;> rfl
@[simp] theorem State.setPair_cpu_f (s : State) (p : Pair) (v : Word) : (s.setPair p v).cpu.f = s.cpu.f := by cases p <;> rfl
@[simp] theorem State.setPair_cpu_pc (s : State) (p : Pair) (v : Word) : (s.setPair p v).cpu.pc = s.cpu.pc := by cases p <;> rfl
@[simp] theorem State.setPair_cpu_ime (s : State) (p : Pair) (v : Word) : (s.setPair p v).cpu.ime = s.cpu.ime := by cases p <;> rfl
@[simp] theorem State.setPair_cpu_imeDelay (s : State) (p : Pair) (v : Word) : (s.setPair p v).cpu.imeDelay = s.cpu.imeDelay := by cases p <;> rfl
@[simp] theorem State.setPair_cpu_halted (s : State) (p : Pair) (v : Word) : (s.setPair p v).cpu.halted = s.cpu.halted := by cases p <;> rfl
@[simp] theorem State.setPair_cpu_haltBug (s : State) (p : Pair) (v : Word) : (s.setPair p v).cpu.haltBug = s.cpu.haltBug := by cases p <;> rfl
@[simp] theorem State.setPair_cpu_cyc (s : State) (p : Pair) (v : Word) : (s.setPair p v).cpu.cyc = s.cpu.cyc := by cases p <;> rfl
@[simp] theorem State.setPair_cpu_fatal (s : State) (p : Pair) (v : Word) : (s.setPair p v).cpu.fatal = s.cpu.fatal := by cases p <;> rfl
@[simp] theorem State.setPair_cpu_speedArmed (s : State) (p : Pair) (v : Word) : (s.setPair p v).cpu.speedArmed = s.cpu.speedArmed := by cases p <;> rfl
@[simp] theorem State.setPair_cpu_doubleSpeed (s : State) (p : Pair) (v : Word) : (s.setPair p v).cpu.doubleSpeed = s.cpu.doubleSpeed := by cases p <;> rfl
@[simp] theorem State.setPair_cpu_fetchAddr (s : State) (p : Pair) (v : Word) : (s.setPair p v).cpu.fetchAddr = s.cpu.fetchAddr := by cases p <;> rfl

@[simp] theorem State.setStackPair_cpu_sp (s : State) (p : StackPair) (v : Word) : (s.setStackPair p v).cpu.sp = s.cpu.sp := by cases p <;> rfl
@[simp] theorem State.setStackPair_cpu_pc (s : State) (p : StackPair) (v : Word) : (s.setStackPair p v).cpu.pc = s.cpu.pc := by cases p <;> rfl
@[simp] theorem State.setStackPair_cpu_ime (s : State) (p : StackPair) (v : Word) : (s.setStackPair p v).cpu.ime = s.cpu.ime := by cases p <;> rfl
@[simp] theorem State.setStackPair_cpu_imeDelay (s : State) (p : StackPair) (v : Word) : (s.setStackPair p v).cpu.imeDelay = s.cpu.imeDelay := by cases p <;> rfl
@[simp] theorem State.setStackPair_cpu_halted (s : State) (p : StackPair) (v : Word) : (s.setStackPair p v).cpu.halted = s.cpu.halted := by cases p <;> rfl
@[simp] theorem State.setStackPair_cpu_haltBug (s : State) (p : StackPair) (v : Word) : (s.setStackPair p v).cpu.haltBug = s.cpu.haltBug := by cases p <;> rfl
@[simp] theorem State.setStackPair_cpu_cyc (s : State) (p : StackPair) (v : Word) : (s.setStackPair p v).cpu.cyc = s.cpu.cyc := by cases p <;> rfl
@[simp] theorem State.setStackPair_cpu_fatal (s : State) (p : StackPair) (v : Word) : (s.setStackPair p v).cpu.fatal = s.cpu.fatal := by cases p <;> rfl
@[simp] theorem State.setStackPair_cpu_speedArmed (s : State) (p : StackPair) (v : Word) : (s.setStackPair p v).cpu.speedArmed = s.cpu.speedArmed := by cases p <;> rfl
@[simp] theorem State.setStackPair_cpu_doubleSpeed (s : State) (p : StackPair) (v : Word) : (s.setStackPair p v).cpu.doubleSpeed = s.cpu.doubleSpeed := by cases p <;> rfl
@[simp] theorem State.setStackPair_cpu_fetchAddr (s : State) (p : StackPair) (v : Word) : (s.setStackPair p v).cpu.fetchAddr = s.cpu.fetchAddr := by cases p <;> rfl

@[simp] theorem State.setFlags_cpu_f (s : State) (f : Flags) : (s.setFlags f).cpu.f = f := rfl
@[simp] theorem State.setPc_cpu_pc (s : State) (a : Word) : (s.setPc a).cpu.pc = a := rfl
@[simp] theorem State.setSp_cpu_sp (s : State) (a : Word) : (s.setSp a).cpu.sp = a := rfl
@[simp] theorem State.request_irq (s : State) (k : Nat) : (s.request k).irq = s.irq.request k := rfl

/-! Reading back. -/

@[simp] theorem State.reg_setReg_same (s : State) (r : Reg8) (v : Byte) : (s.setReg r v).reg r = v := by
  cases r <;> rfl

theorem State.reg_setReg_other (s : State) {r r' : Reg8} (h : r' ≠ r) (v : Byte) :
    (s.setReg r v).reg r' = s.reg r' := by
  cases r <;> cases r' <;> first | rfl | exact absurd rfl h

@[simp] theorem State.reg_setFlags (s : State) (f : Flags) (r : Reg8) : (s.setFlags f).reg r = s.reg r := by
  cases r <;> rfl

@[simp] theorem State.reg_setPc (s : State) (a : Word) (r : Reg8) : (s.setPc a).reg r = s.reg r := by
  cases r <;> rfl

@[simp] theorem State.reg_setSp (s : State) (a : Word) (r : Reg8) : (s.setSp a).reg r = s.reg r := by
  cases r <;> rfl

theorem joinBytes_toNat (a b : Byte) : (joinBytes a b).toNat = a.toNat * 256 + b.toNat := by
  have h : (joinBytes a b).toNat = a.toNat <<< 8 ||| b.toNat := BitVec.toNat_append a b
  rw [h, ← Nat.shiftLeft_add_eq_or_of_lt b.isLt, Nat.shiftLeft_eq]

theorem hiByte_toNat (w : Word) : (hiByte w).toNat = w.toNat / 256 := by
  have := w.isLt
  simp only [hiByte, BitVec.extractLsb'_toNat, Nat.shiftRight_eq_div_pow]
  omega

theorem loByte_toNat (w : Word) : (loByte w).toNat = w.toNat % 256 := by
  simp [loByte, BitVec.extractLsb'_toNat]

/-- Joining the halves of a word gives the word. -/
@[simp] theorem joinBytes_hi_lo (w : Word) : joinBytes (hiByte w) (loByte w) = w := by
  apply BitVec.eq_of_toNat_eq
  rw [joinBytes_toNat, hiByte_toNat, loByte_toNat]
  omega

@[simp] theorem hiByte_join (a b : Byte) : hiByte (joinBytes a b) = a := by
  apply BitVec.eq_of_toNat_eq
  rw [hiByte_toNat, joinBytes_toNat]
  have := b.isLt
  omega

@[simp] theorem loByte_join (a b : Byte) : loByte (joinBytes a b) = b := by
  apply BitVec.eq_of_toNat_eq
  rw [loByte_toNat, joinBytes_toNat]
  have := b.isLt
  omega

@[simp] theorem State.pair_setPair_same (s : State) (p : Pair) (v : Word) : (s.setPair p v).pair p = v := by
  cases p <;> simp [State.setPair, State.pair]

/-- `F` read whole and written back is the same four flags (R23). -/
@[simp] theorem Flags.ofByte_toByte (f : Flags) : Flags.ofByte f.toByte = f := by
  obtain ⟨z, n, h, c⟩ := f
  cases z <;> cases n <;> cases h <;> cases c <;> rfl

end Sys2Proof.Machine
end

