-- ==== Sys2Proof/Laws/Bus.lean ====
section
/-! SUPPORT. What a write through the bus can change and what it never changes
(spec/20_memory.md R63, R79; spec/21_io_registers.md R110). -/

namespace Sys2Proof.Machine

/-- Of the CPU a write changes `speed_armed` at most (R118). -/
theorem memWrite_cpu (s : State) (a : Word) (v : Byte) :
    ∃ b, (memWrite s a v).cpu = { s.cpu with speedArmed := b } := by
  unfold memWrite
  cases locate s a <;> try exact ⟨s.cpu.speedArmed, rfl⟩
  rename_i r
  cases r <;> try exact ⟨s.cpu.speedArmed, rfl⟩
  · simp only [Location.write, ioWrite]
    split <;> exact ⟨s.cpu.speedArmed, rfl⟩
  · exact ⟨bit v 0, rfl⟩

@[simp] theorem memWrite_cpu_a (s : State) (a : Word) (v : Byte) : (memWrite s a v).cpu.a = s.cpu.a := by
  obtain ⟨_, h⟩ := memWrite_cpu s a v
  rw [h]

@[simp] theorem memWrite_cpu_f (s : State) (a : Word) (v : Byte) : (memWrite s a v).cpu.f = s.cpu.f := by
  obtain ⟨_, h⟩ := memWrite_cpu s a v
  rw [h]

@[simp] theorem memWrite_cpu_b (s : State) (a : Word) (v : Byte) : (memWrite s a v).cpu.b = s.cpu.b := by
  obtain ⟨_, h⟩ := memWrite_cpu s a v
  rw [h]

@[simp] theorem memWrite_cpu_c (s : State) (a : Word) (v : Byte) : (memWrite s a v).cpu.c = s.cpu.c := by
  obtain ⟨_, h⟩ := memWrite_cpu s a v
  rw [h]

@[simp] theorem memWrite_cpu_d (s : State) (a : Word) (v : Byte) : (memWrite s a v).cpu.d = s.cpu.d := by
  obtain ⟨_, h⟩ := memWrite_cpu s a v
  rw [h]

@[simp] theorem memWrite_cpu_e (s : State) (a : Word) (v : Byte) : (memWrite s a v).cpu.e = s.cpu.e := by
  obtain ⟨_, h⟩ := memWrite_cpu s a v
  rw [h]

@[simp] theorem memWrite_cpu_h (s : State) (a : Word) (v : Byte) : (memWrite s a v).cpu.h = s.cpu.h := by
  obtain ⟨_, h⟩ := memWrite_cpu s a v
  rw [h]

@[simp] theorem memWrite_cpu_l (s : State) (a : Word) (v : Byte) : (memWrite s a v).cpu.l = s.cpu.l := by
  obtain ⟨_, h⟩ := memWrite_cpu s a v
  rw [h]

@[simp] theorem memWrite_cpu_sp (s : State) (a : Word) (v : Byte) : (memWrite s a v).cpu.sp = s.cpu.sp := by
  obtain ⟨_, h⟩ := memWrite_cpu s a v
  rw [h]

@[simp] theorem memWrite_cpu_pc (s : State) (a : Word) (v : Byte) : (memWrite s a v).cpu.pc = s.cpu.pc := by
  obtain ⟨_, h⟩ := memWrite_cpu s a v
  rw [h]

@[simp] theorem memWrite_cpu_ime (s : State) (a : Word) (v : Byte) : (memWrite s a v).cpu.ime = s.cpu.ime := by
  obtain ⟨_, h⟩ := memWrite_cpu s a v
  rw [h]

@[simp] theorem memWrite_cpu_imeDelay (s : State) (a : Word) (v : Byte) : (memWrite s a v).cpu.imeDelay = s.cpu.imeDelay := by
  obtain ⟨_, h⟩ := memWrite_cpu s a v
  rw [h]

@[simp] theorem memWrite_cpu_halted (s : State) (a : Word) (v : Byte) : (memWrite s a v).cpu.halted = s.cpu.halted := by
  obtain ⟨_, h⟩ := memWrite_cpu s a v
  rw [h]

@[simp] theorem memWrite_cpu_haltBug (s : State) (a : Word) (v : Byte) : (memWrite s a v).cpu.haltBug = s.cpu.haltBug := by
  obtain ⟨_, h⟩ := memWrite_cpu s a v
  rw [h]

@[simp] theorem memWrite_cpu_fetchAddr (s : State) (a : Word) (v : Byte) : (memWrite s a v).cpu.fetchAddr = s.cpu.fetchAddr := by
  obtain ⟨_, h⟩ := memWrite_cpu s a v
  rw [h]

@[simp] theorem memWrite_cpu_cyc (s : State) (a : Word) (v : Byte) : (memWrite s a v).cpu.cyc = s.cpu.cyc := by
  obtain ⟨_, h⟩ := memWrite_cpu s a v
  rw [h]

@[simp] theorem memWrite_cpu_fatal (s : State) (a : Word) (v : Byte) : (memWrite s a v).cpu.fatal = s.cpu.fatal := by
  obtain ⟨_, h⟩ := memWrite_cpu s a v
  rw [h]

@[simp] theorem memWrite_cpu_doubleSpeed (s : State) (a : Word) (v : Byte) : (memWrite s a v).cpu.doubleSpeed = s.cpu.doubleSpeed := by
  obtain ⟨_, h⟩ := memWrite_cpu s a v
  rw [h]

@[simp] theorem memWrite_params (s : State) (a : Word) (v : Byte) : (memWrite s a v).params = s.params := by
  unfold memWrite
  cases locate s a <;> try rfl
  rename_i r
  cases r <;> try rfl
  simp only [Location.write, ioWrite]
  split <;> rfl

@[simp] theorem memWrite_now (s : State) (a : Word) (v : Byte) : (memWrite s a v).now = s.now := by
  unfold memWrite
  cases locate s a <;> try rfl
  rename_i r
  cases r <;> try rfl
  simp only [Location.write, ioWrite]
  split <;> rfl

@[simp] theorem memWrite_inputs (s : State) (a : Word) (v : Byte) : (memWrite s a v).inputs = s.inputs := by
  unfold memWrite
  cases locate s a <;> try rfl
  rename_i r
  cases r <;> try rfl
  simp only [Location.write, ioWrite]
  split <;> rfl

@[simp] theorem memWrite_frameCycle (s : State) (a : Word) (v : Byte) : (memWrite s a v).frameCycle = s.frameCycle := by
  unfold memWrite
  cases locate s a <;> try rfl
  rename_i r
  cases r <;> try rfl
  simp only [Location.write, ioWrite]
  split <;> rfl

@[simp] theorem memWrite_frameBuffer (s : State) (a : Word) (v : Byte) : (memWrite s a v).frameBuffer = s.frameBuffer := by
  unfold memWrite
  cases locate s a <;> try rfl
  rename_i r
  cases r <;> try rfl
  simp only [Location.write, ioWrite]
  split <;> rfl

@[simp] theorem memWrite_audioOut (s : State) (a : Word) (v : Byte) : (memWrite s a v).audioOut = s.audioOut := by
  unfold memWrite
  cases locate s a <;> try rfl
  rename_i r
  cases r <;> try rfl
  simp only [Location.write, ioWrite]
  split <;> rfl

/-- A write keeps the boot image and its ranges (R65). -/
@[simp] theorem memWrite_boot_image (s : State) (a : Word) (v : Byte) :
    (memWrite s a v).boot.image = s.boot.image ∧ (memWrite s a v).boot.overlay = s.boot.overlay := by
  unfold memWrite
  cases locate s a <;> try exact ⟨rfl, rfl⟩
  rename_i r
  cases r <;> try exact ⟨rfl, rfl⟩
  simp only [Location.write, ioWrite]
  split <;> exact ⟨rfl, rfl⟩

/-- A bank-select write keeps the image and the RAM (R65, R535). -/
theorem Cart.bankWrite_keeps (c : Cart) (now addr : Nat) (v : Byte) :
    (c.bankWrite now addr v).rom = c.rom ∧ (c.bankWrite now addr v).ram = c.ram ∧
      (c.bankWrite now addr v).kind = c.kind ∧ (c.bankWrite now addr v).romSize = c.romSize ∧
      (c.bankWrite now addr v).ramSize = c.ramSize := by
  unfold Cart.bankWrite
  split
  · exact ⟨rfl, rfl, rfl, rfl, rfl⟩
  · unfold mbc1Write
    repeat' split
    all_goals exact ⟨rfl, rfl, rfl, rfl, rfl⟩
  · unfold mbc3Write
    repeat' split
    all_goals exact ⟨rfl, rfl, rfl, rfl, rfl⟩
  · unfold mbc5Write
    repeat' split
    all_goals exact ⟨rfl, rfl, rfl, rfl, rfl⟩

/-- A write never changes the cartridge's image or its configuration (R65). -/
theorem memWrite_cart (s : State) (a : Word) (v : Byte) :
    (memWrite s a v).cart.rom = s.cart.rom ∧ (memWrite s a v).cart.kind = s.cart.kind ∧
      (memWrite s a v).cart.romSize = s.cart.romSize ∧ (memWrite s a v).cart.ramSize = s.cart.ramSize := by
  have hb := Cart.bankWrite_keeps s.cart s.now a.toNat v
  unfold memWrite
  cases locate s a <;> try exact ⟨rfl, rfl, rfl, rfl⟩
  · exact ⟨hb.1, hb.2.2.1, hb.2.2.2.1, hb.2.2.2.2⟩
  · exact ⟨hb.1, hb.2.2.1, hb.2.2.2.1, hb.2.2.2.2⟩
  · rename_i r
    cases r <;> try exact ⟨rfl, rfl, rfl, rfl⟩
    simp only [Location.write, ioWrite]
    split <;> exact ⟨rfl, rfl, rfl, rfl⟩

/-- What an address names depends on the overlay, the cartridge, the mode bit and the two bank registers alone. -/
theorem locate_congr {s t : State} (hb : t.boot = s.boot) (hc : t.cart = s.cart) (hu : t.bus = s.bus)
    (hv : t.video.vbk = s.video.vbk) (a : Word) : locate t a = locate s a := by
  unfold locate vramBank wramBank
  rw [hb, hc, hu, hv]

/-- A read depends on no CPU register but the two behind KEY1 (R118). -/
theorem memRead_cpu (s : State) (c : Cpu) (h1 : c.doubleSpeed = s.cpu.doubleSpeed)
    (h2 : c.speedArmed = s.cpu.speedArmed) (a : Word) : memRead { s with cpu := c } a = memRead s a := by
  have hl : locate { s with cpu := c } a = locate s a := rfl
  unfold memRead
  rw [hl]
  cases locate s a <;> try rfl
  rename_i r
  cases r <;> try rfl
  simp only [Location.read, ioRead, h1, h2]

@[simp] theorem memRead_setFlags (s : State) (f : Flags) (a : Word) : memRead (s.setFlags f) a = memRead s a :=
  memRead_cpu s _ rfl rfl a
@[simp] theorem memRead_setPc (s : State) (p a : Word) : memRead (s.setPc p) a = memRead s a :=
  memRead_cpu s _ rfl rfl a
@[simp] theorem memRead_setSp (s : State) (p a : Word) : memRead (s.setSp p) a = memRead s a :=
  memRead_cpu s _ rfl rfl a
@[simp] theorem memRead_setReg (s : State) (r : Reg8) (v : Byte) (a : Word) :
    memRead (s.setReg r v) a = memRead s a := by
  cases r <;> exact memRead_cpu s _ rfl rfl a
@[simp] theorem memRead_setPair (s : State) (p : Pair) (v : Word) (a : Word) :
    memRead (s.setPair p v) a = memRead s a := by
  cases p <;> exact memRead_cpu s _ rfl rfl a

end Sys2Proof.Machine
end

