-- ==== Sys2Proof/Laws/Console.lean ====
section
/-! SUPPORT. What construction makes of the parameter `RESET_REGS` (spec/00_scope.md R10, spec/10_state.md R50, R53). -/

namespace Sys2Proof.Machine

/-- An array built from listed bytes is in the one form and within its size, whatever is listed. -/
theorem Memory.ofBytes_ok (n : Nat) (bs : List Byte) : ArrayOk n (Memory.ofBytes n bs) :=
  ⟨Memory.rising_ofBytesFrom _ 0, Memory.below_ofBytesFrom n _ 0 (by rw [List.length_take]; omega)⟩

/-- Such an array reads as the listed bytes, with 0x00 after them. -/
theorem Memory.read_ofBytes {n i : Nat} (bs : List Byte) (h : i < n) :
    Memory.read (Memory.ofBytes n bs) i = bs.getD i 0 := by
  rw [Memory.ofBytes, Memory.read_ofBytesFrom, if_pos (Nat.zero_le i), Nat.sub_zero]
  simp [List.getD_eq_getElem?_getD, h]

/-- The default of `RESET_REGS` is the reset state. -/
theorem State.constructed_default : State.constructed ResetRegs.default = State.reset := rfl

/-- A construction that succeeds is the constructed state with the image's cartridge and the host's parameters. -/
theorem loadCartridge_spec {c : HostConfig} {image : List Byte} {s : State} (h : loadCartridge c image = .ok s) :
    ∃ cart, parseCartridge image c.now = .ok cart ∧
      s = { State.constructed c.resetRegs with
        cart := { cart with ram := Memory.ofBytes cart.ramSize c.resetRegs.cartRam }
        boot := ⟨true, Memory.ofBytesFrom 0 c.bootRom, c.overlay⟩
        params := c.params
        now := c.now } := by
  unfold loadCartridge at h
  split at h
  · simp at h
  · rename_i cart hc
    exact ⟨cart, hc, by simpa using h.symm⟩

@[simp] theorem State.constructed_cpu (r : ResetRegs) : (State.constructed r).cpu = Cpu.constructed r := rfl
@[simp] theorem State.constructed_vram (r : ResetRegs) : (State.constructed r).vram = Memory.ofBytes 16384 r.vram := rfl
@[simp] theorem State.constructed_wram (r : ResetRegs) : (State.constructed r).wram = Memory.ofBytes 32768 r.wram := rfl
@[simp] theorem State.constructed_oam (r : ResetRegs) : (State.constructed r).oam = Memory.ofBytes 160 r.oam := rfl
@[simp] theorem State.constructed_hram (r : ResetRegs) : (State.constructed r).hram = Memory.ofBytes 127 r.hram := rfl
@[simp] theorem State.constructed_video (r : ResetRegs) : (State.constructed r).video = Video.reset := rfl
@[simp] theorem State.constructed_sound (r : ResetRegs) : (State.constructed r).sound = Sound.reset := rfl

end Sys2Proof.Machine
end

