-- ==== Sys2Proof/Laws/Decode.lean ====
section
/-! SUPPORT. The decoding tables are complete, and the two decoders agree (spec/30_encoding.md R140, R166). -/

namespace Sys2Proof

/-- Sixteen rows of sixteen entries: no opcode byte falls outside the base table (R163). -/
theorem baseTable_complete : baseTable.length = 16 ∧ ∀ row ∈ baseTable, row.length = 16 := by decide

/-- Sixteen rows of sixteen entries: no byte falls outside the extended table (R164). -/
theorem extTable_complete : extTable.length = 16 ∧ ∀ row ∈ extTable, row.length = 16 := by decide

/-- The decoder of byte strings reads what the decoder of three fetched bytes reads. -/
theorem decode_window (b0 b1 b2 : Byte) (rest : List Byte) :
    ∃ tail, decode (b0 :: b1 :: b2 :: rest) = .ok (decodeWindow b0 b1 b2, tail) := by
  cases h : baseEntry b0 <;> simp [decode, decodeWindow, h]

/-- Decoding a byte string fails only for want of bytes: a string of three bytes or more always decodes. -/
theorem decode_total (b0 b1 b2 : Byte) (rest : List Byte) : (decode (b0 :: b1 :: b2 :: rest)).isOk = true := by
  obtain ⟨_, h⟩ := decode_window b0 b1 b2 rest
  rw [h]
  rfl

end Sys2Proof
end

