-- ==== Sys2Proof/Laws/Ops.lean ====
section
/-! SUPPORT. One lemma per shared operation: everything it can do (spec/00_scope.md R16, spec/60_exceptions.md R341,
R348, R352, R355). -/

namespace Sys2Proof.Machine

/-- The end of an instruction answers a next state and writes `cyc` alone. -/
theorem finish_spec {n : Nat} {s t : State} (h : finish n s = .next t) :
    t = { s with cpu := { s.cpu with cyc := n - 1 } } := by
  simpa [finish] using h.symm

/-- Raising a fatal condition answers a next state and writes `fatal` alone (R341). -/
theorem raiseFatal_spec {r : FatalReason} {s t : State} (h : raiseFatal r s = .next t) :
    t = { s with cpu := { s.cpu with fatal := some r } } := by
  simpa [raiseFatal] using h.symm

/-- A push is two writes, high byte first, and `sp` down by two (R16). -/
theorem push16_spec (s : State) (v : Word) :
    push16 s v =
      memWrite ((memWrite (s.setSp (s.cpu.sp - 1)) (s.cpu.sp - 1) (hiByte v)).setSp (s.cpu.sp - 1 - 1))
        (s.cpu.sp - 1 - 1) (loByte v) := by
  simp [push16]

@[simp] theorem push16_sp (s : State) (v : Word) : (push16 s v).cpu.sp = s.cpu.sp - 2 := by
  simp only [push16_spec, memWrite_cpu_sp, State.setSp_cpu_sp]
  bv_omega

@[simp] theorem push16_pc (s : State) (v : Word) : (push16 s v).cpu.pc = s.cpu.pc := by simp [push16_spec]
@[simp] theorem push16_flags (s : State) (v : Word) : (push16 s v).cpu.f = s.cpu.f := by simp [push16_spec]
@[simp] theorem push16_ime (s : State) (v : Word) : (push16 s v).cpu.ime = s.cpu.ime := by simp [push16_spec]
@[simp] theorem push16_imeDelay (s : State) (v : Word) : (push16 s v).cpu.imeDelay = s.cpu.imeDelay := by
  simp [push16_spec]
@[simp] theorem push16_fatal (s : State) (v : Word) : (push16 s v).cpu.fatal = s.cpu.fatal := by simp [push16_spec]

/-- No byte register but those of the CPU changes in a push. -/
@[simp] theorem push16_reg (s : State) (v : Word) (r : Reg8) : (push16 s v).reg r = s.reg r := by
  cases r <;> simp [push16_spec, State.reg]

/-- A pop reads two bytes, low first, and changes `sp` alone (R16, R79). -/
theorem pop16_spec (s : State) :
    pop16 s = (joinBytes (memRead s (s.cpu.sp + 1)) (memRead s s.cpu.sp), s.setSp (s.cpu.sp + 2)) := rfl

/-- Popping takes the lowest pending bit and clears that bit alone (R348). -/
theorem Irq.pop_spec (q : Irq) {k : Nat} {q' : Irq} (h : q.pop = (some k, q')) :
    lowestBit q.masked = some k ∧ q' = { q with flags := q.flags &&& ~~~(1#8 <<< k) } := by
  unfold Irq.pop at h
  split at h
  · simp at h
  · rename_i j hj
    obtain ⟨rfl, rfl⟩ : j = k ∧ _ = q' := by simpa using h
    exact ⟨hj, rfl⟩

/-- With nothing pending a pop changes nothing (R348). -/
theorem Irq.pop_none (q : Irq) (h : lowestBit q.masked = none) : q.pop = (none, q) := by simp [Irq.pop, h]

/-- Taking an interrupt: the handler's address, the two saved bytes, interrupts off, five cycles (R352). -/
theorem enterHandler_spec (s : State) (k : Nat) :
    (enterHandler s k).cpu.pc = handlerAddress k ∧ (enterHandler s k).cpu.ime = false ∧
      (enterHandler s k).cpu.imeDelay = 0 ∧ (enterHandler s k).cpu.cyc = 4 ∧
      (enterHandler s k).cpu.sp = s.cpu.sp - 2 := by
  simp [enterHandler, Config.interruptServiceCycles]

/-- A return from a handler (R310, R355). -/
theorem returnFromHandler_spec (s : State) :
    returnFromHandler s =
      { s with cpu := { s.cpu with
          pc := joinBytes (memRead s (s.cpu.sp + 1)) (memRead s s.cpu.sp), sp := s.cpu.sp + 2
          ime := true, imeDelay := 0 } } := rfl

/-- A call pushes `pc` and goes to the target (R306). -/
theorem callTo_spec (a : Word) (s : State) : callTo a s = (push16 s s.cpu.pc).setPc a := rfl

/-- A return pops `pc` (R308). -/
theorem returnTo_spec (s : State) :
    returnTo s = { s with cpu := { s.cpu with
      pc := joinBytes (memRead s (s.cpu.sp + 1)) (memRead s s.cpu.sp), sp := s.cpu.sp + 2 } } := rfl

end Sys2Proof.Machine
end

