-- ==== Sys2Proof/Laws/Step.lean ====
section
/-! SUPPORT. What a step can do, said once (spec/60_exceptions.md R341, R343; spec/70_reset_and_hazards.md R586,
R588). -/

namespace Sys2Proof.Machine

/-- A fatal CORE stops with its reason (R341). -/
theorem step_fatal {s : State} {r : FatalReason} (h : s.cpu.fatal = some r) : step s = .fault (.fatal r) := by
  simp [step, h]

/-- A CORE that is not fatal takes the input, runs a machine cycle and keeps the frame's books. -/
theorem step_live {s : State} (h : s.cpu.fatal = none) : step s = liveStep s := by simp [step, h]

/-- A step that answers a next state came from a live state, and its machine cycle answered one. -/
theorem step_cases {s t : State} (h : step s = .next t) :
    s.cpu.fatal = none ∧ ∃ u, machineCycle (applyInput s) = .next u ∧ t = frameBoundary u := by
  cases hf : s.cpu.fatal with
  | some r => simp [step_fatal hf] at h
  | none =>
    refine ⟨rfl, ?_⟩
    rw [step_live hf] at h
    unfold liveStep at h
    split at h
    · rename_i u hu
      exact ⟨u, hu, by simpa using h.symm⟩
    · simp at h
    · simp at h

/-- A machine cycle that answers a next state: the CPU's step, then either the cycle is abandoned or the other
agents step. -/
theorem machineCycle_cases {s t : State} (h : machineCycle s = .next t) :
    ∃ u, cpuStep s = .next u ∧
      ((u.cpu.fatal.isSome = true ∧ t = u) ∨ (u.cpu.fatal = none ∧ t = peripherals u)) := by
  unfold machineCycle at h
  split at h
  · rename_i u hu
    refine ⟨u, hu, ?_⟩
    cases hf : u.cpu.fatal with
    | some r => left; exact ⟨rfl, by simpa [hf] using h.symm⟩
    | none => right; exact ⟨rfl, by simpa [hf] using h.symm⟩
  · simp at h
  · simp at h

/-- The three kinds of CPU step before a boundary is reached (R343 steps 1 and 2). -/
theorem cpuStep_cases {s t : State} (h : cpuStep s = .next t) :
    (0 < s.cpu.cyc ∧ t = { s with cpu := { s.cpu with cyc := s.cpu.cyc - 1 } }) ∨
      (s.cpu.cyc = 0 ∧ s.dma.stalled = true ∧ t = s) ∨
      (s.cpu.cyc = 0 ∧ s.dma.stalled = false ∧ boundary s = .next t) := by
  unfold cpuStep at h
  split at h
  · rename_i hc
    exact .inl ⟨hc, by simpa using h.symm⟩
  · rename_i hc
    have hz : s.cpu.cyc = 0 := by omega
    split at h
    · rename_i hs
      exact .inr (.inl ⟨hz, hs, by simpa using h.symm⟩)
    · rename_i hs
      exact .inr (.inr ⟨hz, by simpa using hs, h⟩)

/-- The peripherals run in their fixed order, and the cycle is counted (R82, R586). -/
theorem peripherals_eq (s : State) :
    peripherals s =
      { timerStep (dmaStep (soundStep (videoStep s))) with
        frameCycle := (timerStep (dmaStep (soundStep (videoStep s)))).frameCycle + 1 } := rfl

/-- With no pending input nothing happens before the cycle. -/
theorem applyInput_nil {s : State} (h : s.inputs = []) : applyInput s = s := by simp [applyInput, h]

end Sys2Proof.Machine
end

