-- ==== Sys2Proof/Tests/Slice0.lean ====
section
/-! SUPPORT. The model's own tests. Expected values are from the vectors of spec/95_test_vectors.md (the section is named
with each test) or worked out by hand from the encoding of a rule. The `witness_` theorems show, for each statement
with hypotheses, concrete values that meet them. -/

namespace Sys2Proof.Tests

open Sys2Proof Sys2Proof.Machine

/-! ## WellFormed, decoding, placing a word -/

/-- The prefix byte is not an instruction of its own (R326); every other constructor is one. -/
theorem test_wellFormed_refuses_prefix : WellFormed .prefixCB = false := by decide

/-- The boundary operands of the forms that carry some are well formed. -/
theorem test_wellFormed_operands :
    WellFormed (.ld_atN16_SP 0xFFFF) = true ∧ WellFormed (.jr_e8 0x80) = true ∧ WellFormed (.stop 0xFF) = true ∧
      WellFormed .illegal_D3 = true ∧ WellFormed .set_7_A = true := by decide

/-- 8-bit loads, words by R171 to R190: `01 rrr r'r'r'`, `00 rrr 110`, and the accumulator forms. -/
theorem test_decode_load8 :
    decode [0x41] = .ok (.ld_B_C, []) ∧ decode [0x7E] = .ok (.ld_A_atHL, []) ∧ decode [0x75] = .ok (.ld_atHL_L, []) ∧
      decode [0x2E, 0x12] = .ok (.ld_L_n8 0x12, []) ∧ decode [0xEA, 0x34, 0xC2] = .ok (.ld_atN16_A 0xC234, []) ∧
      decode [0xE2] = .ok (.ldh_atC_A, []) ∧ decode [0xF0, 0x0F] = .ok (.ldh_A_atN8 0x0F, []) ∧
      decode [0x3A] = .ok (.ld_A_atHLD, []) := by decide

/-- 16-bit loads and arithmetic, words by R201 to R207 and R261 to R265: `rr` and `rr2` in bits 5:4. -/
theorem test_decode_16bit :
    decode [0x31, 0xFE, 0xFF] = .ok (.ld_SP_n16 0xFFFE, []) ∧ decode [0xF5] = .ok (.push_AF, []) ∧
      decode [0xE1] = .ok (.pop_HL, []) ∧ decode [0xF8, 0xFF] = .ok (.ld_HL_SP_e8 0xFF, []) ∧
      decode [0xE8, 0x80] = .ok (.add_SP_e8 0x80, []) ∧ decode [0x1B] = .ok (.dec_DE, []) ∧
      decode [0x39] = .ok (.add_HL_SP, []) ∧ decode [0xF9] = .ok (.ld_SP_HL, []) := by decide

/-- 8-bit arithmetic, words by R217 to R248: `10 ooo rrr` and `11 ooo 110`. -/
theorem test_decode_alu8 :
    decode [0x9F] = .ok (.sbc_A_A, []) ∧ decode [0xB5] = .ok (.or_L, []) ∧ decode [0xFE, 0x3C] = .ok (.cp_n8 0x3C, []) ∧
      decode [0xA6] = .ok (.and_atHL, []) ∧ decode [0x0D] = .ok (.dec_C, []) ∧ decode [0x34] = .ok (.inc_atHL, []) ∧
      decode [0x27] = .ok (.daa, []) ∧ decode [0x3F] = .ok (.ccf, []) := by decide

/-- The extended table, words by R275 to R296: `xx yyy zzz` after 0xCB. The byte after the prefix is never a
prefix. -/
theorem test_decode_extended :
    decode [0xCB, 0x11] = .ok (.rl_C, []) ∧ decode [0xCB, 0x36] = .ok (.swap_atHL, []) ∧
      decode [0xCB, 0x5F] = .ok (.bit_3_A, []) ∧ decode [0xCB, 0xBE] = .ok (.res_7_atHL, []) ∧
      decode [0xCB, 0xC0] = .ok (.set_0_B, []) ∧ decode [0xCB, 0xCB] = .ok (.set_1_E, []) ∧
      decode [0x1F] = .ok (.rra, []) := by decide

/-- Control transfers and system instructions, words by R301 to R311 and R321 to R327. -/
theorem test_decode_control :
    decode [0xDA, 0x00, 0x20] = .ok (.jp_C_n16 0x2000, []) ∧ decode [0x30, 0xFB] = .ok (.jr_NC_e8 0xFB, []) ∧
      decode [0xCC, 0x34, 0x12] = .ok (.call_Z_n16 0x1234, []) ∧ decode [0xD9] = .ok (.reti, []) ∧
      decode [0xEF] = .ok (.rst_28, []) ∧ decode [0x10, 0x00] = .ok (.stop 0x00, []) ∧
      decode [0x76] = .ok (.halt, []) ∧ decode [0xFD] = .ok (.illegal_FD, []) := by decide

/-- A byte string too short for its instruction is not decoded; the bytes after it are given back. -/
theorem test_decode_rest :
    decode [0x00, 0x76] = .ok (.nop, [0x76]) ∧ (decode [0xC3, 0x00]).toOption = none ∧
      (decode []).toOption = none := by decide

/-- Table words: base rows by byte 0, extended rows as `0xCBnn` (R166). -/
theorem test_decodeTableWord :
    decodeTableWord 8 0x3C = some .inc_A ∧ decodeTableWord 16 0xCB2C = some .sra_H ∧
      decodeTableWord 8 0xC3 = some (.jp_n16 0) ∧ decodeTableWord 8 0xFF = some .rst_38 := by decide

/-- What a step answers, as a state. -/
def nextOf (o : Out) : Option State :=
  match o with
  | .next t => some t
  | .fault _ => none
  | .refused _ => none

/-- A placed word is what the very next step runs. -/
theorem test_withFetchWord_inc :
    (nextOf (step (State.reset.withFetchWord 8 0x3C))).map (fun t => (t.cpu.a, t.cpu.pc)) = some (1, 1) := by decide

/-- The same for an extended word: SET 7,(HL) at HL = 0. -/
theorem test_withFetchWord_extended :
    (nextOf (step (State.reset.withFetchWord 16 0xCBFF))).map (fun t => (t.cpu.a, t.cpu.pc, t.cpu.cyc)) =
      some (0x80, 2, 1) := by decide

/-! ## One instruction -/

/-- The test start state of 95_test_vectors.md section 0. -/
def launch : State :=
  { State.reset with
    boot := { State.reset.boot with mapped := false }
    cpu := { State.reset.cpu with pc := 0x0150, sp := 0xFFFE } }

/-- `s` with `code` in ROM at 0x0150. -/
def withCode (code : List Byte) (s : State) : State :=
  { s with cart := { s.cart with rom := Memory.ofBytesFrom 0x0150 code } }

/-- The state after the boundary cycle's CPU step on `code`. -/
def after (code : List Byte) (s : State) : State := (nextOf (fetchExecute (withCode code s))).getD s

/-- `launch` with `A` and `F`. -/
def withAF (a f : Byte) : State := (launch.setReg .a a).setFlags (Flags.ofByte f)

/-- `A` and `F` after `code`. -/
def af (code : List Byte) (s : State) : Byte × Byte := ((after code s).cpu.a, (after code s).cpu.f.toByte)

/-- `pc` and the cost after `code`. -/
def pcCost (code : List Byte) (s : State) : Word × Nat := ((after code s).cpu.pc, (after code s).cpu.cyc + 1)

/-- `HL` and `C123` hold the byte `v`. -/
def atC123 (v : Byte) (s : State) : State := memWrite (s.setPair .hl 0xC123) 0xC123 v

/-! 95_test_vectors.md section 2.1. -/

theorem test_ld_B_C :
    (after [0x41] (launch.setReg .c 0x5A)).cpu.b = 0x5A ∧ pcCost [0x41] launch = (0x0151, 1) := by decide

theorem test_ld_A_atHL :
    (after [0x7E] (atC123 0x99 launch)).cpu.a = 0x99 ∧ pcCost [0x7E] launch = (0x0151, 2) := by decide

theorem test_ld_atHL_B_mirror :
    let t := after [0x70] ((launch.setPair .hl 0xE123).setReg .b 0x77)
    memRead t 0xC123 = 0x77 ∧ memRead t 0xE123 = 0x77 := by decide

theorem test_ld_atHL_n8 :
    (after [0x36, 0x42] (launch.setPair .hl 0xFF80)).hram = [(0, 0x42)] ∧
      pcCost [0x36, 0x42] launch = (0x0152, 3) := by decide

theorem test_ld_atHLI_A_at_top :
    let t := after [0x22] ((launch.setPair .hl 0xFFFF).setReg .a 0x1F)
    t.irq.ie = 0x1F ∧ t.hl = 0x0000 := by decide

theorem test_ld_A_atHLD_at_bottom : (after [0x3A] launch).hl = 0xFFFF := by decide

theorem test_ldh_A_atN8 : (af [0xF0, 0x0F] { launch with irq := ⟨0, 5⟩ }).1 = 0x05 := by decide

theorem test_ldh_A_atC_tac :
    (af [0xF2] { launch.setReg .c 0x07 with timer := ⟨0, 0, 0, 5⟩ }).1 = 0xFD := by decide

theorem test_ld_A_atN16_gap :
    af [0xFA, 0xA5, 0xFE] launch = (0x55, 0x00) ∧ pcCost [0xFA, 0xA5, 0xFE] launch = (0x0153, 4) := by decide

theorem test_ld_atDE_A_bank1 :
    (after [0x12] ((launch.setPair .de 0xD000).setReg .a 0x6E)).wram = [(4096, 0x6E)] := by decide

/-! Section 2.2. -/

theorem test_ld_atN16_SP :
    let t := after [0x08, 0x00, 0xC1] (launch.setSp 0xDFF0)
    memRead t 0xC100 = 0xF0 ∧ memRead t 0xC101 = 0xDF ∧ t.cpu.cyc = 4 := by decide

theorem test_push_AF :
    let t := after [0xF5] (withAF 0x12 0xB0)
    memRead t 0xFFFD = 0x12 ∧ memRead t 0xFFFC = 0xB0 ∧ t.cpu.sp = 0xFFFC := by decide

theorem test_pop_AF_low_nibble :
    let s := memWrite (memWrite (launch.setSp 0xC000) 0xC000 0x5F) 0xC001 0x12
    af [0xF1] s = (0x12, 0x50) ∧ (after [0xF1] s).cpu.sp = 0xC002 := by decide

theorem test_pop_HL_through_ie :
    let t := after [0xE1] (memWrite (memWrite launch 0xFFFE 0x34) 0xFFFF 0x12)
    t.hl = 0x1234 ∧ t.cpu.sp = 0x0000 := by decide

theorem test_push_BC_wraps :
    let t := after [0xC5] ((launch.setSp 0x0001).setPair .bc 0xABCD)
    t.irq.ie = 0xCD ∧ t.cpu.sp = 0xFFFF := by decide

theorem test_ld_HL_SP_e8 :
    (after [0xF8, 0x08] (launch.setSp 0xFFF8)).hl = 0x0000 ∧ (af [0xF8, 0x08] (launch.setSp 0xFFF8)).2 = 0x30 ∧
      (after [0xF8, 0xFF] (launch.setSp 0x0001)).hl = 0x0000 ∧
      (af [0xF8, 0xFF] (launch.setSp 0x0001)).2 = 0x30 := by decide

theorem test_add_SP_e8 :
    (after [0xE8, 0x80] (launch.setSp 0xD0FF)).cpu.sp = 0xD07F ∧
      (af [0xE8, 0x80] (launch.setSp 0xD0FF)).2 = 0x10 ∧
      (after [0xE8, 0x7F] (launch.setSp 0xFFFF)).cpu.sp = 0x007E := by decide

/-! Sections 2.3 to 2.5. -/

theorem test_add :
    af [0x87] (withAF 0x88 0) = (0x10, 0x30) ∧ af [0x86] (atC123 0xC6 (withAF 0x3A 0)) = (0x00, 0xB0) ∧
      af [0xC6, 0xFF] (withAF 0x3C 0) = (0x3B, 0x30) := by decide

theorem test_adc :
    af [0x88] ((withAF 0x0F 0x10).setReg .b 0x00) = (0x10, 0x20) ∧
      af [0x88] ((withAF 0xFF 0x10).setReg .b 0xFF) = (0xFF, 0x30) ∧
      af [0x88] ((withAF 0x01 0x00).setReg .b 0x02) = (0x03, 0x00) := by decide

theorem test_sub :
    af [0x97] (withAF 0x5A 0) = (0x00, 0xC0) ∧ af [0xD6, 0x0F] (withAF 0x3E 0) = (0x2F, 0x60) ∧
      af [0x96] (atC123 0x40 (withAF 0x3E 0)) = (0xFE, 0x50) := by decide

theorem test_sbc :
    af [0x98] ((withAF 0x00 0x10).setReg .b 0xFF) = (0x00, 0xF0) ∧
      af [0x98] ((withAF 0x10 0x10).setReg .b 0x0F) = (0x00, 0xE0) ∧
      af [0x98] ((withAF 0x0E 0x10).setReg .b 0x01) = (0x0C, 0x40) := by decide

theorem test_logic :
    af [0xA0] ((withAF 0x5A 0).setReg .b 0x3F) = (0x1A, 0x20) ∧ af [0xAF] (withAF 0xFF 0xF0) = (0x00, 0x80) ∧
      af [0xB0] ((withAF 0x5A 0).setReg .b 0x03) = (0x5B, 0x00) ∧ af [0xEE, 0x0F] (withAF 0xFF 0) = (0xF0, 0x00) := by
  decide

theorem test_cp :
    af [0xB8] ((withAF 0x3C 0).setReg .b 0x2F) = (0x3C, 0x60) ∧ af [0xFE, 0x3C] (withAF 0x3C 0) = (0x3C, 0xC0) ∧
      af [0xBE] (atC123 0x40 (withAF 0x3C 0)) = (0x3C, 0x50) := by decide

theorem test_inc_dec :
    af [0x3C] (withAF 0xFF 0x10) = (0x00, 0xB0) ∧ (af [0x05] (withAF 0 0x10)).2 = 0x70 ∧
      (after [0x05] launch).cpu.b = 0xFF ∧ (af [0x05] (launch.setReg .b 0x10)).2 = 0x60 := by decide

theorem test_inc_dec_atHL :
    memRead (after [0x34] (atC123 0xFF launch)) 0xC123 = 0x00 ∧ (af [0x34] (atC123 0xFF launch)).2 = 0xA0 ∧
      memRead (after [0x35] (atC123 0x00 launch)) 0xC123 = 0xFF ∧ (af [0x35] (atC123 0x00 launch)).2 = 0x60 := by
  decide

theorem test_cpl_scf_ccf :
    af [0x2F] (withAF 0x35 0x80) = (0xCA, 0xE0) ∧ (af [0x37] (withAF 0 0xE0)).2 = 0x90 ∧
      (af [0x3F] (withAF 0 0xF0)).2 = 0x80 ∧ (af [0x3F] (withAF 0 0x00)).2 = 0x10 := by decide

theorem test_daa_after_add :
    af [0x27] (withAF 0x9A 0x00) = (0x00, 0x90) ∧ af [0x27] (withAF 0xFF 0x00) = (0x65, 0x10) ∧
      af [0x27] (withAF 0x00 0x20) = (0x06, 0x00) ∧ af [0x27] (withAF 0x00 0x10) = (0x60, 0x10) := by decide

theorem test_daa_after_sub :
    af [0x27] (withAF 0x00 0x70) = (0x9A, 0x50) ∧ af [0x27] (withAF 0x66 0x70) = (0x00, 0xD0) ∧
      af [0x27] (withAF 0x9A 0x40) = (0x9A, 0x40) ∧ af [0x27] (withAF 0x00 0x60) = (0xFA, 0x40) := by decide

/-! Section 2.6. -/

theorem test_add_HL :
    let r (op : Byte) (s : State) := ((after [op] s).hl, (af [op] s).2)
    r 0x09 (((withAF 0 0xC0).setPair .hl 0x8A23).setPair .bc 0x0605) = (0x9028, 0xA0) ∧
      r 0x29 ((withAF 0 0xC0).setPair .hl 0x8800) = (0x1000, 0xB0) ∧
      r 0x39 (((withAF 0 0xC0).setPair .hl 0x1000).setSp 0xFFFF) = (0x0FFF, 0x90) := by decide

theorem test_inc_dec_pair :
    (after [0x13] ((withAF 0 0xF0).setPair .de 0x235F)).pair .de = 0x2360 ∧ (af [0x13] (withAF 0 0xF0)).2 = 0xF0 ∧
      (after [0x0B] launch).pair .bc = 0xFFFF ∧ (after [0x3B] (launch.setSp 0)).cpu.sp = 0xFFFF := by decide

/-! Section 2.7. -/

theorem test_accumulator_rotates :
    af [0x07] (withAF 0x00 0x80) = (0x00, 0x00) ∧ af [0x0F] (withAF 0x85 0) = (0xC2, 0x10) ∧
      af [0x17] (withAF 0x85 0x10) = (0x0B, 0x10) ∧ af [0x1F] (withAF 0x85 0) = (0x42, 0x10) := by decide

/-- `B` and `F` after `CB op` with `F1` in `B` and the carry set: the last column of the table. -/
def rotF1 (op : Byte) : Byte × Byte :=
  let t := after [0xCB, op] ((withAF 0 0x10).setReg .b 0xF1)
  (t.cpu.b, t.cpu.f.toByte)

theorem test_extended_rotates :
    rotF1 0x00 = (0xE3, 0x10) ∧ rotF1 0x08 = (0xF8, 0x10) ∧ rotF1 0x10 = (0xE3, 0x10) ∧
      rotF1 0x18 = (0xF8, 0x10) := by decide

theorem test_extended_shifts :
    rotF1 0x20 = (0xE2, 0x10) ∧ rotF1 0x28 = (0xF8, 0x10) ∧ rotF1 0x30 = (0x1F, 0x00) ∧
      rotF1 0x38 = (0x78, 0x10) := by decide

theorem test_extended_atHL :
    memRead (after [0xCB, 0x2E] (atC123 0x81 launch)) 0xC123 = 0xC0 ∧
      (af [0xCB, 0x2E] (atC123 0x81 launch)).2 = 0x10 ∧ pcCost [0xCB, 0x2E] launch = (0x0152, 4) ∧
      memRead (after [0xCB, 0x36] (atC123 0xA5 launch)) 0xC123 = 0x5A := by decide

theorem test_bit :
    (af [0xCB, 0x7F] (withAF 0x80 0x10)).2 = 0x30 ∧ (af [0xCB, 0x5F] (withAF 0xF7 0x50)).2 = 0xB0 ∧
      (af [0xCB, 0x46] (atC123 0xFE launch)).2 = 0xA0 ∧ pcCost [0xCB, 0x46] launch = (0x0152, 3) := by decide

theorem test_res_set :
    af [0xCB, 0x87] (withAF 0xFF 0xF0) = (0xFE, 0xF0) ∧ af [0xCB, 0xFF] (withAF 0x00 0) = (0x80, 0x00) ∧
      memRead (after [0xCB, 0xBE] (atC123 0xFF launch)) 0xC123 = 0x7F ∧
      memRead (after [0xCB, 0xDE] (atC123 0x00 launch)) 0xC123 = 0x08 := by decide

/-! Section 2.8. -/

theorem test_jumps :
    pcCost [0xC3, 0x00, 0x20] launch = (0x2000, 4) ∧ pcCost [0xCA, 0x00, 0x20] launch = (0x0153, 3) ∧
      pcCost [0xCA, 0x00, 0x20] (withAF 0 0x80) = (0x2000, 4) ∧
      pcCost [0xE9] (launch.setPair .hl 0xC123) = (0xC123, 1) := by decide

theorem test_relative_jumps :
    pcCost [0x18, 0xFE] launch = (0x0150, 3) ∧ pcCost [0x18, 0x80] launch = (0x00D2, 3) ∧
      pcCost [0x20, 0x05] (withAF 0 0x80) = (0x0152, 2) ∧ pcCost [0x38, 0xFB] (withAF 0 0x10) = (0x014D, 3) := by
  decide

theorem test_calls :
    let t := after [0xCD, 0x34, 0x12] launch
    t.cpu.pc = 0x1234 ∧ t.cpu.sp = 0xFFFC ∧ memRead t 0xFFFD = 0x01 ∧ memRead t 0xFFFC = 0x53 ∧
      pcCost [0xDC, 0x34, 0x12] launch = (0x0153, 3) ∧ pcCost [0xC4, 0x00, 0x40] launch = (0x4000, 6) := by decide

theorem test_rst :
    let t := after [0xEF] launch
    t.cpu.pc = 0x0028 ∧ memRead t 0xFFFD = 0x01 ∧ memRead t 0xFFFC = 0x51 ∧ t.cpu.cyc = 3 := by decide

/-- `sp` at 0xC000, where 0x1234 stands. -/
def returnStack : State := memWrite (memWrite (launch.setSp 0xC000) 0xC000 0x34) 0xC001 0x12

theorem test_returns :
    pcCost [0xC9] returnStack = (0x1234, 4) ∧ pcCost [0xC8] returnStack = (0x0151, 2) ∧
      pcCost [0xD0] returnStack = (0x1234, 5) ∧ (after [0xD0] returnStack).cpu.sp = 0xC002 := by decide

theorem test_reti :
    let t := after [0xD9] { returnStack with cpu := { returnStack.cpu with imeDelay := 1 } }
    t.cpu.pc = 0x1234 ∧ t.cpu.ime = true ∧ t.cpu.imeDelay = 0 := by decide

/-! Section 2.9. -/

theorem test_nop : pcCost [0x00] launch = (0x0151, 1) := by decide

theorem test_di_ei :
    (after [0xF3] { launch with cpu := { launch.cpu with ime := true, imeDelay := 1 } }).cpu.ime = false ∧
      (after [0xFB] launch).cpu.imeDelay = 2 ∧ (after [0xFB] launch).cpu.ime = false := by decide

theorem test_halt : (after [0x76] { launch with irq := ⟨4, 4⟩ }).cpu.halted = true := by decide

theorem test_undefined_opcode :
    (after [0xD3] launch).cpu.fatal = some (.undefinedOpcode 0xD3 0x0150) ∧ (after [0xD3] launch).cpu.pc = 0x0151 := by
  decide

theorem test_stop :
    (after [0x10, 0x00] launch).cpu.fatal = some (.unimplementedLowPower 0x0150) ∧
      memRead (after [0x10, 0x00] (memWrite launch 0xFF4D 0x01)) 0xFF4D = 0xFE := by decide

/-- A fatal cycle is abandoned: the divider and the frame counter stay. -/
theorem test_fatal_cycle :
    (nextOf (step (withCode [0xD3] launch))).map (fun t => (t.timer.divCounter, t.frameCycle, t.cpu.pc)) =
      some (0, 0, 0x0151) := by decide

/-- R342: after a repeated fetch too, the address recorded is the one the opcode byte was fetched from. -/
theorem test_fatal_address_after_repeated_fetch :
    let s := { launch with cpu := { launch.cpu with haltBug := true } }
    (after [0xD3] s).cpu.fatal = some (.undefinedOpcode 0xD3 0x0150) ∧
      (after [0x10] s).cpu.fatal = some (.unimplementedLowPower 0x0150) := by decide

/-- The prefix row alone runs the extended table (R326): with 0x37 next, `SWAP A`. -/
theorem test_prefix_row :
    ((nextOf (exec .prefixCB (withCode [0x37] (withAF 0xA5 0)))).map fun t => (t.cpu.a, t.cpu.pc)) =
      some (0x5A, 0x0151) := by decide

/-! ## The machine around the CPU (sections 3.1 to 3.7) -/

/-- Interrupt 2 pending and enabled. -/
def irqState : State := { launch with irq := ⟨4, 4⟩, cpu := { launch.cpu with ime := true } }

/-- X1, X4: service, even with an undefined opcode at `pc`. -/
theorem test_interrupt_service :
    (nextOf (cpuStep (withCode [0xD3] irqState))).map (fun t => (t.irq.flags, t.cpu.ime, t.cpu.pc, t.cpu.cyc)) =
        some (0, false, 0x0050, 4) ∧
      (nextOf (cpuStep (withCode [0xD3] irqState))).map (fun t => (t.cpu.sp, memRead t 0xFFFD, memRead t 0xFFFC)) =
        some (0xFFFC, 0x01, 0x50) := by decide

/-- X2: the lowest bit first; a disabled flag waits; bit 7 is served too. -/
theorem test_interrupt_priority :
    (Irq.pop ⟨0x1F, 0x15⟩) = (some 0, ⟨0x1F, 0x14⟩) ∧ (Irq.pop ⟨0x04, 0x1B⟩) = (none, ⟨0x04, 0x1B⟩) ∧
      (Irq.pop ⟨0xFF, 0x80⟩) = (some 7, ⟨0xFF, 0x00⟩) ∧ handlerAddress 7 = 0x0078 := by decide

/-- T5: a DIV write is not a timer edge. -/
theorem test_timer_div_write :
    let s := { launch with timer := ⟨0x0008, 0, 0, 5⟩ }
    (timerStep (memWrite s 0xFF04 0xAA)).timer = ⟨0x0004, 0, 0, 5⟩ ∧
      (timerStep { launch with timer := ⟨0x000C, 0xFF, 0xFE, 5⟩ }).timer = ⟨0x0010, 0xFE, 0xFE, 5⟩ ∧
      (timerStep { launch with timer := ⟨0x000C, 0xFF, 0xFE, 5⟩ }).irq.flags = 0x04 := by decide

/-- D1, D2: what the start registers hold, and the destination mask. -/
theorem test_dma_start :
    (memWrite launch 0xFF46 0xC0).dma.transfer = some ⟨.objectMemory, 160, 0, 0xC000, 0⟩ ∧
      (memWrite { launch with dma := ⟨none, 0xC000, 0x801F, 0⟩ } 0xFF55 0x01).dma.transfer =
        some ⟨.general, 32, 0, 0xC000, 0x0010⟩ := by decide

/-- V1, V7: the STAT and LY reads of line 0, and the display off. -/
theorem test_stat_read :
    let on (m : VideoMode) (ly : Nat) := { launch.video with lcdc := 0x80, mode := m, ly := ly }
    (on .oamSearch 0).readStat = 0x86 ∧ (on .transfer 0).readStat = 0x87 ∧ (on .hBlank 0).readStat = 0x84 ∧
      (on .oamSearch 1).readStat = 0x82 ∧ launch.video.readStat = 0x84 := by decide

/-- V3: a tile row. -/
theorem test_tile_row :
    (List.range 8).map (fun cx => planeIndex 0x3C 0x7E (7 - cx)) = [0, 2, 3, 3, 3, 3, 2, 0] := by decide

/-- V4's tile 1 and the two map cells its rows (FA, 00, c = 5 and 6) look at. -/
def scrollState : State :=
  { launch with
    video := { launch.video with lcdc := 0x91, scx := 0xFA }
    vram := (List.range 16).map (fun k => (16 + k, 0xFF)) ++ [(0x1800 + 31, 1)] }

/-- V4: the background wraps at 256. -/
theorem test_scroll_wrap :
    (backgroundPixel scrollState 0 5).index = 3 ∧ (backgroundPixel scrollState 0 6).index = 0 := by decide

/-- V5: colour words. -/
theorem test_colour :
    pixelOf Params.default 0x7FFF = ⟨0xFF, 0xFF, 0xFF, 0xFF⟩ ∧ pixelOf Params.default 0x001F = ⟨0xFF, 0, 0, 0xFF⟩ ∧
      pixelOf Params.default 0x8000 = ⟨0, 0, 0, 0xFF⟩ ∧ pixelOf Params.default 0x0001 = ⟨0x08, 0, 0, 0xFF⟩ := by decide

/-- V6's sprite 0 with the given attribute. -/
def spriteState (attr : Byte) : State :=
  { launch with
    video := { launch.video with lcdc := 0x93 }
    oam := [(0, 0x10), (1, 0x08), (2, 0x02)] ++ if attr = 0 then [] else [(3, attr)]
    vram := [(32, 0x80), (33, 0x80)] }

/-- V6: column 0, or column 7 when flipped. -/
theorem test_sprite_pixel :
    let px (attr : Byte) (c : Nat) := (spritePixel (spriteState attr) (lineSprites (spriteState attr) 0) 0 c).map (·.index)
    px 0 0 = some 3 ∧ px 0 1 = none ∧ px 0x20 7 = some 3 ∧ px 0x20 0 = none ∧ px 0x40 0 = none := by decide

/-- A2: the sweep from period 0x400 and the envelope that counts three. -/
theorem test_sweep_and_envelope :
    let w : Sweep := ⟨1, false, 1, 1⟩
    let p : Pulse := { Pulse.reset with period := 0x400, enabled := true }
    (sweepPeriod w p).period = 0x600 ∧ (sweepPeriod w (sweepPeriod w p)).period = 0x600 ∧
      (sweepPeriod w (sweepPeriod w p)).enabled = false ∧
      (Envelope.clock ⟨2, false, 3, 2, false, 3, 1⟩).volume = 1 := by decide

/-- Channel 1 at volume 15 with its waveform bit 1. -/
def loudPulse : Pulse :=
  { Pulse.reset with enabled := true, duty := 0, dutyPos := 7, env := ⟨15, false, 0, 15, false, 0, 0⟩ }

/-- A3: left -1/8 as -120/960, right 0; A4: the first shift of the noise register. -/
theorem test_mix_and_noise :
    Sound.mix Params.default [] { Sound.reset with power := true, ch1 := loudPulse, nr51 := 0x10, nr50 := 0x70 } =
        (-120, 0) ∧ lfsrNext false 0 = 0x4000 := by decide

/-- A5: NR52 and NR10 with the power off; K2: `Mbc1` bank 0x21. -/
theorem test_sound_off_and_banks :
    memRead launch 0xFF26 = 0x70 ∧ memRead launch 0xFF10 = 0x80 ∧
      romOffset { Cart.reset with kind := .mbc1, romSize := 1048576, romBank := 0, ramBank := 1 } 0x4000 =
        0x21 * 16384 := by decide

/-- An image that ends with the three header bytes. -/
def image (a b c : Byte) : List Byte := List.replicate 0x147 0 ++ [a, b, c]

set_option maxRecDepth 4000 in
/-- K1: the construction errors and their order. -/
theorem test_construction :
    parseCartridge (image 4 9 0) 0 = .error .unknownCartType ∧
      parseCartridge (image 1 9 0) 0 = .error .unknownRomSize ∧
      parseCartridge (image 3 0 1) 0 = .error .unknownRamSize ∧
      (parseCartridge (image 1 1 3) 0).toOption.map (fun c => (c.kind, c.romSize, c.ramSize)) =
        some (.mbc1, 65536, 0) := by decide

/-- K4, K6: a latch at 1 day 2:03:04, and at 512 days and 5 seconds. -/
theorem test_clock_latch :
    ((Rtc.reset 1000).latch (1000 + 93784)).latched = ⟨4, 3, 2, 1, false, false⟩ ∧
      ((Rtc.reset 0).latch (512 * 86400 + 5)).latched = ⟨5, 0, 0, 0, false, true⟩ ∧
      ((Rtc.reset 0).latch (512 * 86400 + 5)).readField .dayHigh = 0x80 := by decide

/-- R557: the snapshot reads back what was written, whatever the field's width; of the last field bits 7, 6, 0. -/
theorem test_clock_write_reads_back :
    let r := Rtc.reset 0
    (r.writeField 0 .seconds 0xFF).readField .seconds = 0xFF ∧ (r.writeField 0 .seconds 0xFF).elapsed 0 = 63 ∧
      (r.writeField 0 .hours 0xFF).readField .hours = 0xFF ∧ (r.writeField 0 .dayHigh 0xFF).readField .dayHigh = 0xC1 := by
  decide

/-- J1: Right and A held. -/
theorem test_joypad :
    let s := handleJoypad ⟨.a, true⟩ (handleJoypad ⟨.right, true⟩ launch)
    memRead (memWrite s 0xFF00 0x20) 0xFF00 = 0xEE ∧ memRead (memWrite s 0xFF00 0x10) 0xFF00 = 0xDE ∧
      memRead (memWrite s 0xFF00 0x30) 0xFF00 = 0xFF ∧ s.irq.flags = 0x10 := by decide

/-- J2: SC, and the unmapped register page. -/
theorem test_small_registers :
    memRead (memWrite launch 0xFF02 0x81) 0xFF02 = 0xFD ∧ memRead launch 0xFF03 = 0xFF ∧
      memRead launch 0xFF4D = 0x7E := by decide

/-! ## Witnesses: values that meet the hypotheses of each statement -/

/-- Whether an outcome is a next state that passes a test. -/
def nextAnd (o : Out) (p : State → Bool) : Bool :=
  match o with
  | .next t => p t
  | .fault _ => false
  | .refused _ => false

/-- DecodeOfEncodeIsTheInstruction, FlagEffectTable: operands at their greatest value. -/
theorem witness_WellFormed :
    WellFormed (.jp_C_n16 0xFFFF) = true ∧ WellFormed (.ldh_A_atN8 0xFF) = true ∧ WellFormed .set_7_A = true := by
  decide

/-- EncodeOfDecodedIsTheBytes: strings of one, two and three bytes with something left over. -/
theorem witness_EncodeOfDecodedIsTheBytes :
    decode [0xFF, 0x00] = .ok (.rst_38, [0x00]) ∧ decode [0xCB, 0xFF, 0xCB] = .ok (.set_7_A, [0xCB]) ∧
      decode [0xFA, 0xFF, 0xFF, 0x01] = .ok (.ld_A_atN16 0xFFFF, [0x01]) := by decide

/-- The offset of a work or high RAM location. -/
def ramOffset (l : Location) : Nat :=
  match l with
  | .hram i => i
  | .wram i => i
  | _ => 0

/-- StackRoundTrip: a stack in high RAM, its top byte the last storage byte, and one across two work RAM banks. -/
theorem witness_StackRoundTrip :
    ArraysOk returnStack ∧ StackOk (returnStack.setSp 0xFFFF) ∧ StackOk (returnStack.setSp 0xD001) :=
  ⟨by decide, ⟨by decide, by decide, fun h => absurd (congrArg ramOffset h) (by decide)⟩,
    ⟨by decide, by decide, fun h => absurd (congrArg ramOffset h) (by decide)⟩⟩

/-- SubtractSetsDifferenceAndBorrows and LogicActsBitwise: each of the operations they name. -/
theorem witness_operations :
    (AluOp.sub = .sub ∨ AluOp.sub = .sbc ∨ AluOp.sub = .cp) ∧ (AluOp.sbc = .sub ∨ AluOp.sbc = .sbc ∨ AluOp.sbc = .cp) ∧
      (AluOp.cp = .sub ∨ AluOp.cp = .sbc ∨ AluOp.cp = .cp) ∧
      (AluOp.and = .and ∨ AluOp.and = .xor ∨ AluOp.and = .or) ∧
      (AluOp.xor = .and ∨ AluOp.xor = .xor ∨ AluOp.xor = .or) ∧
      (AluOp.or = .and ∨ AluOp.or = .xor ∨ AluOp.or = .or) := by decide

/-- DecimalAdjustRule: both values of `N`. -/
theorem witness_DecimalAdjustRule :
    (withAF 0x9A 0x00).cpu.f.n = false ∧ (withAF 0x66 0x70).cpu.f.n = true := by decide

/-- DecimalAdjustGivesDecimalResults: 99 and 99, 99 and 0. -/
theorem witness_DecimalAdjustGivesDecimalResults :
    ((withAF 0x99 0).setReg .b 0x99).cpu.a = bcd 99 ∧ ((withAF 0x99 0).setReg .b 0x99).cpu.b = bcd 99 ∧
      (withAF 0x99 0).cpu.b = bcd 0 := by decide

/-- Jumps, CallsPushTheLink, ReturnsPopThePc: every condition taken and not taken. -/
theorem witness_conditions :
    ([Cond.nz, .z, .nc, .c].map launch.cond) = [true, false, true, false] ∧
      ([Cond.nz, .z, .nc, .c].map (withAF 0 0xF0).cond) = [false, true, false, true] := by decide

/-- `launch` with the parameter `HALT_BUG` on. -/
def haltBugState : State := { launch with params := { launch.params with haltBug := true }, irq := ⟨4, 4⟩ }

/-- `launch` halted, with the given masks and `ime`. -/
def haltedState (q : Irq) (ime : Bool) : State :=
  { launch with irq := q, cpu := { launch.cpu with halted := true, ime := ime } }

/-- HaltSleepsAndWakes: the two outcomes of the instruction; asleep, awake without service, awake with service. -/
theorem witness_HaltSleepsAndWakes :
    (haltBugState.params.haltBug = true ∧ haltBugState.cpu.ime = false ∧ haltBugState.irq.pending = true) ∧
      launch.params.haltBug = false ∧
      ((haltedState ⟨0xFF, 0⟩ true).cpu.cyc = 0 ∧ (haltedState ⟨0xFF, 0⟩ true).dma.stalled = false ∧
        (haltedState ⟨0xFF, 0⟩ true).irq.pending = false) ∧
      ((haltedState ⟨4, 4⟩ false).irq.pending = true ∧ (haltedState ⟨4, 4⟩ true).irq.pending = true) := by decide

/-- StopAndUndefinedOpcodes: the switch armed and not. -/
theorem witness_StopAndUndefinedOpcodes :
    (memWrite launch 0xFF4D 0x01).cpu.speedArmed = true ∧ launch.cpu.speedArmed = false := by decide

/-- OnlyAFatalStateStops: a state of each kind. -/
theorem witness_OnlyAFatalStateStops :
    launch.cpu.fatal = none ∧ (after [0xD3] launch).cpu.fatal = some (.undefinedOpcode 0xD3 0x0150) := by decide

/-- StoredBytesOnly: a push in high RAM, a 16-bit store at the last two high RAM bytes, an instruction with no store. -/
theorem witness_StoredBytesOnly :
    ArraysOk launch ∧ storeAddresses .push_BC launch = [0xFFFD, 0xFFFC] ∧
      storeAddresses (.ld_atN16_SP 0xFFFD) launch = [0xFFFD, 0xFFFE] ∧ storeAddresses .cp_B launch = [] ∧
      ([0xFFFC, 0xFFFD, 0xFFFE].all fun a => isStorage (locate launch a)) = true :=
  ⟨by decide, rfl, rfl, rfl, by decide⟩

/-- ControlStateWriters: an instruction that writes none of it, and one excepted in each clause. -/
theorem witness_ControlStateWriters :
    nextAnd (exec .nop launch) (fun t => t.cpu.ime == launch.cpu.ime) = true ∧
      nextAnd (exec .ei launch) (fun t => t.cpu.imeDelay == 2) = true ∧
      nextAnd (exec .reti returnStack) (fun t => t.cpu.ime) = true := by decide

/-- StorageWriteReadsBack: the first and last byte of each storage window. -/
theorem witness_StorageWriteReadsBack :
    ArraysOk launch ∧
      ([0x8000, 0x9FFF, 0xC000, 0xCFFF, 0xD000, 0xDFFF, 0xE000, 0xFDFF, 0xFE00, 0xFE9F, 0xFF30, 0xFF3F, 0xFF80,
        0xFFFE].all fun a => isStorage (locate launch a)) = true := by decide

/-- WorkRamMirror: the ends of the mirrored range and of its two halves. -/
theorem witness_WorkRamMirror :
    locate launch (0xC000 + 0x2000) = .wram 0 ∧ locate launch (0xCFFF + 0x2000) = .wram 4095 ∧
      locate launch (0xD000 + 0x2000) = .wram 4096 ∧ locate launch (0xDDFF + 0x2000) = .wram (4096 + 0xDFF) := by decide

/-- UnmapLatchIsOneWay: a step from an unmapped state; overlaid and not overlaid addresses next to each other. -/
theorem witness_UnmapLatchIsOneWay :
    launch.boot.mapped = false ∧ nextAnd (step launch) (fun t => !t.boot.mapped) = true ∧
      ([0x0000, 0x00FF, 0x0100, 0x01FF, 0x0200, 0x08FF, 0x0900, 0x7FFF].map State.reset.boot.covers) =
        [true, true, false, false, true, true, false, false] := by decide

/-- ConfigurationNeverChanges: a step that writes KEY0 after the unmap. -/
theorem witness_ConfigurationNeverChanges :
    launch.boot.mapped = false ∧
      nextAnd (step (withCode [0xE0, 0x4C] (launch.setReg .a 0x04))) (fun t => t.bus.enhanced) = true := by decide

/-- `launch` with a cartridge of the given variant, with or without a clock. -/
def withKind (k : CartKind) (rtc : Bool) : State :=
  { launch with cart := { launch.cart with kind := k, hasRtc := rtc } }

/-- BankSelectWrites: `NoMbc`, and the other variants at the ends of their windows, which share no address; the clock
select at both ends of its range and beyond, the latch and its absence. -/
theorem witness_BankSelectWrites :
    launch.cart.kind = .noMbc ∧
      (let s := withKind .mbc1 false
       (memWrite s 0x1FFF 0x1A).cart.ramEnabled = true ∧ (memWrite s 0x2000 0xE5).cart.romBank = 5 ∧
         (memWrite s 0x3FFF 0x00).cart.romBank = 0 ∧ (memWrite s 0x4000 0xFF).cart.ramBank = 3 ∧
         (memWrite s 0x5FFF 0x02).cart.ramBank = 2 ∧ (memWrite s 0x6000 0x01).cart.advanced = true ∧
         (memWrite s 0x7FFF 0xFE).cart.advanced = false) ∧
      (let s := withKind .mbc3 true
       (memWrite s 0x3FFF 0xFF).cart.romBank = 127 ∧ (memWrite s 0x4000 0x03).cart.ramBank = 3 ∧
         (memWrite s 0x4000 0x08).cart.rtc.select = some .seconds ∧
         (memWrite s 0x5FFF 0x0C).cart.rtc.select = some .dayHigh ∧ memWrite s 0x5FFF 0x0D = s ∧
         memWrite s 0x5FFF 0x07 = s ∧ memWrite (withKind .mbc3 false) 0x4000 0x08 = withKind .mbc3 false ∧
         (memWrite (memWrite { s with now := 65 } 0x6000 0x00) 0x7FFF 0x01).cart.rtc.latched.m = 1 ∧
         (memWrite { s with now := 65 } 0x7FFF 0x01).cart.rtc.latched.m = 0) ∧
      (let s := withKind .mbc5 false
       (memWrite s 0x2000 0xFF).cart.romBank = 0xFF ∧ (memWrite s 0x2FFF 0x00).cart.romBank = 0 ∧
         (memWrite s 0x3000 0xFF).cart.romBank = 0x101 ∧ (memWrite s 0x3FFF 0xFE).cart.romBank = 1 ∧
         (memWrite s 0x4000 0xFF).cart.ramBank = 15 ∧ (memWrite s 0x5FFF 0x10).cart.ramBank = 0 ∧
         memWrite s 0x6000 0xFF = s) := by decide

/-- `s` with bank registers, RAM of the given size and 64 ROM banks. -/
def withBanks (rom ram size : Nat) (en : Bool) (s : State) : State :=
  { s with cart := { s.cart with
      romSize := 64 * 16384, romBank := rom, ramBank := ram, ramSize := size, ramEnabled := en, advanced := true } }

/-- BankSelectWrites, reading: the ends of the two ROM windows on each variant, bank 0 shown as bank 1, a bank beyond
the ROM; offsets from R536, R540, R546, R549. -/
theorem witness_BankSelectWrites_rom :
    let m1 := (withBanks 0 3 0 false (withKind .mbc1 false)).cart
    let m3 := (withBanks 65 0 0 false (withKind .mbc3 false)).cart
    let m5 := (withBanks 0 0 0 false (withKind .mbc5 false)).cart
    (romOffset launch.cart 0x7FFF = 0x7FFF) ∧
      (romOffset m1 0x3FFF = 32 * 16384 + 0x3FFF ∧ romOffset m1 0x4000 = 33 * 16384) ∧
      (romOffset m3 0x3FFF = 0x3FFF ∧ romOffset m3 0x4000 = 16384) ∧
      (romOffset m5 0 = 0 ∧ romOffset m5 0x7FFF = 16384 + 0x3FFF) := by decide

/-- BankSelectWrites, the RAM window: its ends, a bank beyond the RAM, the clock behind it, and disabled or absent. -/
theorem witness_BankSelectWrites_window :
    let m1 := withBanks 0 3 32768 true (withKind .mbc1 false)
    let m5 := withBanks 0 5 32768 true (withKind .mbc5 false)
    let m3 := withBanks 0 0 0 true (withKind .mbc3 true)
    let clock := { m3 with cart := { m3.cart with
      rtc := { m3.cart.rtc with latched := ⟨1, 2, 3, 0x1FF, true, true⟩, select := some .dayHigh } } }
    ((memWrite m1 0xA000 7).cart.ram = [(24576, 7)] ∧ (memWrite m1 0xBFFF 7).cart.ram = [(32767, 7)]) ∧
      ((memWrite m5 0xA000 7).cart.ram = [(8192, 7)] ∧ memRead (memWrite m5 0xA000 7) 0xA000 = 7) ∧
      (memRead m3 0xA000 = 0xFF ∧ memRead clock 0xBFFF = 0xC1) ∧
      (memRead launch 0xA000 = 0xFF ∧ memWrite (withBanks 0 0 8192 false (withKind .mbc5 false)) 0xBFFF 7 =
        withBanks 0 0 8192 false (withKind .mbc5 false)) := by decide

/-- PlainRegisterPorts: the boot image mapped and not, and a line number at each end. -/
theorem witness_PlainRegisterPorts :
    State.reset.boot.mapped = true ∧ launch.boot.mapped = false ∧ launch.video.ly = 0 ∧
      memRead { launch with video := { launch.video with ly := 153 } } 0xFF44 = 153 := by decide

/-- `launch` with the two palette index registers. -/
def paletteState (v : Byte) : State := { launch with video := { launch.video with bcps := v, ocps := v } }

/-- PalettePorts: with and without auto-increment at the last index, which wraps. -/
theorem witness_PalettePorts :
    bit (paletteState 0xBF).video.bcps 6 = false ∧ bit (paletteState 0x3F).video.ocps 6 = false ∧
      (memWrite (paletteState 0xBF) 0xFF69 0x12).video.bcps = 0x80 ∧
      (memWrite (paletteState 0x3F) 0xFF6B 0x12).video.ocps = 0x3F := by decide

/-- StepRunsTheDecodedInstruction: one byte, three bytes, and the `EI` delay at each of its values. -/
theorem witness_StepRunsTheDecodedInstruction :
    launch.cpu.fatal = none ∧ (applyInput launch).cpu.cyc = 0 ∧ (applyInput launch).dma.stalled = false ∧
      (applyInput launch).cpu.halted = false ∧ (applyInput launch).cpu.haltBug = false ∧
      imeSeen (applyInput launch) = false ∧
      decode [memRead launch 0x150, memRead launch 0x151, memRead launch 0x152] = .ok (.nop, [0x00, 0x00]) ∧
      imeSeen { launch with cpu := { launch.cpu with imeDelay := 1 } } = true ∧
      imeSeen { launch with cpu := { launch.cpu with imeDelay := 2 } } = false ∧ launch.irq.pending = false := by decide

/-- OtherCasesOfTheCpuCycle: counting down, stalled, the delay at 2 and 1, the repeated fetch. -/
theorem witness_OtherCasesOfTheCpuCycle :
    0 < ({ launch with cpu := { launch.cpu with cyc := 5 } } : State).cpu.cyc ∧
      ((memWrite launch 0xFF55 0x00).dma.transfer.map fun t => t.kind) = some .general ∧
      (launch.cpu.cyc = 0 ∧ launch.dma.stalled = false ∧ launch.cpu.halted = false ∧ launch.cpu.ime = false) ∧
      haltBugState.irq.pending = true ∧ launch.irq.pending = false ∧
      decode [memRead launch 0x150, memRead launch 0x150, memRead launch 0x151] = .ok (.nop, [0x00, 0x00]) ∧
      ({ launch with cpu := { launch.cpu with haltBug := true } } : State).cpu.imeDelay = 0 := by decide

/-- InterruptControllerBits: nothing pending, and bits 0 and 7 pending. -/
theorem witness_InterruptControllerBits :
    (⟨0x04, 0x1B⟩ : Irq).pending = false ∧ (⟨0x81, 0x81⟩ : Irq).pending = true := by decide

/-- InterruptEntry: running, halted, and with the delayed enable maturing. -/
theorem witness_InterruptEntry :
    (irqState.cpu.cyc = 0 ∧ irqState.dma.stalled = false) ∧ imeSeen irqState = true ∧ irqState.irq.pending = true ∧
      imeSeen (haltedState ⟨0x80, 0x80⟩ true) = true ∧
      imeSeen { haltBugState with cpu := { haltBugState.cpu with imeDelay := 1 } } = true ∧
      ArraysOk irqState ∧ (isStorage (locate irqState 0xFFFD) = true ∧ isStorage (locate irqState 0xFFFC) = true) := by
  decide

/-- FatalAbandonsTheCycle: a step that raises each of the two reasons, and one after a repeated fetch. -/
theorem witness_FatalAbandonsTheCycle :
    launch.inputs = [] ∧
      nextAnd (step (withCode [0xD3] launch)) (fun t => t.cpu.fatal == some (.undefinedOpcode 0xD3 0x0150)) = true ∧
      nextAnd (step (withCode [0x10] launch)) (fun t => t.cpu.fatal == some (.unimplementedLowPower 0x0150)) = true ∧
      nextAnd (step (withCode [0xFD] { launch with cpu := { launch.cpu with haltBug := true } }))
        (fun t => t.cpu.fatal == some (.undefinedOpcode 0xFD 0x0150)) = true := by
  decide

/-- TimerTicksOnItsPeriod: no tick, a tick, an overflow, and a tick at the wrap of the divider. -/
theorem witness_TimerTicksOnItsPeriod :
    TimerOk ⟨0xFFFC, 0xFF, 0, 4⟩ ∧ (0xFFFC + 4) % (4 * timerPeriod 4) = 0 ∧ (0x000C + 4) % (4 * timerPeriod 5) = 0 ∧
      (0x0008 + 4) % (4 * timerPeriod 5) ≠ 0 ∧ (4 : BitVec 3).getLsbD 2 = true ∧ (3 : BitVec 3).getLsbD 2 = false := by
  decide

/-- TransfersMoveTheirBytes, GeneralTransferEnds: both kinds; one step left, the shortest and the longest. -/
theorem witness_transfers :
    ((memWrite launch 0xFF46 0xC0).dma.transfer.map fun t => t.kind) = some .objectMemory ∧
      ((memWrite launch 0xFF55 0x7F).dma.transfer.map fun t => (t.kind, t.length)) = some (.general, 2048) ∧
      TransferOk ⟨.general, 16, 14, 0xFFF0, 0x1FF0⟩ ∧ TransferOk ⟨.general, 16, 0, 0, 0⟩ ∧
      TransferOk ⟨.general, 2048, 0, 0, 0⟩ ∧ (dmaStep { launch with
        dma := ⟨some ⟨.general, 16, 14, 0, 0⟩, 0, 0, 0⟩ }).dma.transfer = none := by decide

/-- `launch` with the display on in the given mode. -/
def displayState (m : VideoMode) (n ly : Nat) : State :=
  { launch with video := { launch.video with lcdc := 0x80, mode := m, modeCycles := n, ly := ly } }

/-- VisibleLineLasts114Cycles: the first and the last line it speaks of. -/
theorem witness_VisibleLineLasts114Cycles :
    (displayState .oamSearch 0 0).video.on = true ∧ (displayState .oamSearch 0 142).video.ly < 143 ∧
      (displayState .oamSearch 0 142).video.mode = .oamSearch := by decide

/-- `s` with STAT source `k` on and the line's last value. -/
def withStat (sel : BitVec 4) (prev : Bool) (s : State) : State :=
  { s with video := { s.video with statSel := sel, statLinePrev := prev } }

/-- DeviceInterruptRequests: the step into line 144; the line held up; rising on the OAM source; staying down. -/
theorem witness_DeviceInterruptRequests :
    (displayState .hBlank 49 143).video.on = true ∧
      (withStat 4 true (displayState .oamSearch 3 9)).video.statLinePrev = true ∧ launch.irq.flags = 0 ∧
      (withStat 4 false (displayState .hBlank 49 9)).video.statLinePrev = false ∧
      (videoStep (withStat 4 false (displayState .hBlank 49 9))).video.statLine = true ∧
      (videoStep (withStat 4 false (displayState .hBlank 48 9))).video.statLine = false := by decide

/-- DisplaySwitch: off from a running line, off already, on again, and the white frame pending. -/
theorem witness_DisplaySwitch :
    (displayState .hBlank 49 143).video.on = true ∧ bit 0x7F 7 = false ∧ launch.video.on = false ∧ bit 0x80 7 = true ∧
      (memWrite launch 0xFF40 0x80).video.frameBlank = true ∧ (memWrite launch 0xFF40 0x80).cpu.fatal = none := by decide

/-- SoundPowerOff: off, and on with the power bit cleared; the ends of the ignored range. -/
theorem witness_SoundPowerOff :
    launch.sound.power = false ∧ (memWrite launch 0xFF26 0x80).sound.power = true ∧ bit 0x7F 7 = false ∧
      memWrite launch 0xFF10 0xFF = launch ∧ memWrite launch 0xFF25 0xFF = launch := by decide

/-- MixStaysInRange: every field of the invariant at its bound. -/
theorem witness_MixStaysInRange :
    SoundOk { Sound.reset with
      power := true, ch1 := { loudPulse with length := 64 }, ch2 := loudPulse, nr50 := 0xFF, nr51 := 0xFF
      ch3 := ⟨true, 0, 256, true, 0, true, 1, 31⟩, seqCounter := 7 } := by decide

/-- ClockFieldWrites: the greatest value in range and the first and greatest beyond it, on a running and a halted clock. -/
theorem witness_ClockFieldWrites :
    (0x3B : Byte).toNat % 64 = 59 ∧ (0x3C : Byte).toNat % 64 = 60 ∧ (0xFF : Byte).toNat % 64 = 63 ∧
      (0x17 : Byte).toNat % 32 = 23 ∧ (0x18 : Byte).toNat % 32 = 24 ∧
      minOf (((Rtc.reset 0).writeField 100 .seconds 0x3C).elapsed 100) = 2 ∧
      secOf (((Rtc.reset 0).writeField 100 .seconds 0x3B).elapsed 100) = 59 ∧
      hourOf ((({ Rtc.reset 0 with halted := true }).writeField 100 .hours 0x17).elapsed 100) = 23 := by decide

/-- A battery-backed `Mbc3` cartridge with a clock and two bytes of its RAM set. -/
def savedCart : Cart :=
  { Cart.reset with
    kind := .mbc3, hasRam := true, hasBattery := true, hasRtc := true, ramSize := 4, ram := [(0, 1), (3, 0xFF)] }

/-- SaveLoadRoundTrip: a cartridge that saves, and a fresh one of its kind. -/
theorem witness_SaveLoadRoundTrip :
    ArrayOk savedCart.ramSize savedCart.ram ∧ ({ savedCart with ram := [] } : Cart).ram = [] ∧
      (savedCart.save 100).1 = some ⟨[1, 0, 0, 0xFF], some ⟨100, false, false⟩⟩ := by decide

/-- A choice of `RESET_REGS` with the low nibble of `F` set and RAM listed where the cartridge has none. -/
def someRegs : ResetRegs :=
  { ResetRegs.default with a := 0x11, f := 0xBF, sp := 0xFFFE, oam := [0, 7], cartRam := [9] }

/-- LoadedSystemMeetsTheInvariant: an image that loads, with registers and RAM of the host's choice. -/
theorem witness_LoadedSystemMeetsTheInvariant :
    let s := loadCartridge ⟨[0x31], [(0, 0xFF)], Params.default, someRegs, 7⟩ [0x00, 0xC3]
    s.toOption.map (fun s => (s.boot.image, s.cart.rom, s.cart.kind)) = some ([(0, 0x31)], [(1, 0xC3)], .noMbc) ∧
      s.toOption.map (fun s => (s.cpu.a, s.cpu.f.toByte, s.cpu.sp)) = some (0x11, 0xB0, 0xFFFE) ∧
      s.toOption.map (fun s => (s.oam, s.cart.ram)) = some ([(1, 7)], []) := by decide

/-- A state with a transfer, the display, the timer and a sound channel running. -/
def busyState : State :=
  { memWrite (displayState .transfer 42 143) 0xFF46 0xC0 with
    sound := { Sound.reset with power := true, ch1 := loudPulse }
    timer := ⟨0xFFFC, 0xFF, 1, 4⟩
    frameCycle := 17555 }

set_option maxRecDepth 8000 in
/-- EveryStepKeepsTheInvariant: that state meets it and steps. -/
theorem witness_EveryStepKeepsTheInvariant :
    (ArraysOk busyState ∧ CpuOk busyState ∧ VideoOk busyState.video) ∧
      (FrameOk busyState ∧ SoundOk busyState.sound ∧ CartOk busyState.cart ∧ DmaOk busyState.dma ∧
        TimerOk busyState.timer) ∧
      nextAnd (step busyState) (fun t => t.frameCycle == 0 && t.timer.tima == 1) = true :=
  ⟨⟨by decide, by decide, by decide⟩, ⟨by decide, by decide, by decide, by decide, by decide⟩, by decide⟩

end Sys2Proof.Tests
end

section
/-! PROOF. What the CPU's share of a cycle can do, said once for every instruction: it changes the CPU and the
interrupt masks, and everything else only by `MemWrite` (spec/20_memory.md R63, spec/60_exceptions.md R343). -/

namespace Sys2Proof.Machine

/-- `t` comes from `s` by changes of the CPU, changes of the interrupt masks and writes through the bus. -/
inductive ViaBus (s : State) : State → Prop where
  | refl : ViaBus s s
  | cpu {t : State} (c : Cpu) : ViaBus s t → ViaBus s { t with cpu := c }
  | irq {t : State} (q : Irq) : ViaBus s t → ViaBus s { t with irq := q }
  | write {t : State} (a : Word) (v : Byte) : ViaBus s t → ViaBus s (memWrite t a v)

/-- The outcome `o` is a next state that comes from `s` in that way. -/
def NextViaBus (s : State) (o : Out) : Prop := ∃ t, o = .next t ∧ ViaBus s t

/-! The state's operations. -/

section
variable {s t : State} (h : ViaBus s t)
include h

theorem ViaBus.setReg (r : Reg8) (v : Byte) : ViaBus s (t.setReg r v) := by cases r <;> exact h.cpu _

theorem ViaBus.setFlags (f : Flags) : ViaBus s (t.setFlags f) := h.cpu _

theorem ViaBus.setPc (a : Word) : ViaBus s (t.setPc a) := h.cpu _

theorem ViaBus.setSp (a : Word) : ViaBus s (t.setSp a) := h.cpu _

theorem ViaBus.setPair (p : Pair) (v : Word) : ViaBus s (t.setPair p v) := by cases p <;> exact h.cpu _

theorem ViaBus.push16 (v : Word) : ViaBus s (push16 t v) := by
  rw [push16_spec]
  exact (((h.setSp _).write _ _).setSp _).write _ _

theorem ViaBus.callTo (a : Word) : ViaBus s (callTo a t) := (h.push16 _).setPc _

theorem ViaBus.returnTo : ViaBus s (returnTo t) := h.cpu _

theorem ViaBus.enterHandler (k : Nat) : ViaBus s (enterHandler t k) := ((h.cpu _).push16 _).cpu _

theorem ViaBus.serviceInterrupt : ViaBus s (serviceInterrupt t) := by
  unfold Machine.serviceInterrupt
  split
  · exact (h.irq _).enterHandler _
  · exact h

theorem ViaBus.finish (n : Nat) : NextViaBus s (finish n t) := ⟨_, rfl, h.cpu _⟩

theorem ViaBus.raiseFatal (r : FatalReason) : NextViaBus s (raiseFatal r t) := ⟨_, rfl, h.cpu _⟩

/-- What happens before a meaning starts may be put in front of it. -/
theorem ViaBus.before {o : Out} (ho : NextViaBus t o) : NextViaBus s o := by
  obtain ⟨u, hu, hv⟩ := ho
  refine ⟨u, hu, ?_⟩
  clear hu
  induction hv with
  | refl => exact h
  | cpu c _ ih => exact ih.cpu c
  | irq q _ ih => exact ih.irq q
  | write a v _ ih => exact ih.write a v

end

/-! The meanings that store, branch, stop or read the extended table by its fields. -/

/-- A meaning that changes the CPU alone and ends. -/
theorem nextViaBus_cpu (s : State) (c : Cpu) (n : Nat) : NextViaBus s (finish n { s with cpu := c }) :=
  (ViaBus.refl.cpu c).finish n

theorem storeAt_viaBus (a : Word) (v : Byte) (n : Nat) (s : State) : NextViaBus s (storeAt a v n s) :=
  (ViaBus.refl.write a v).finish n

theorem storeThenHL_viaBus (d : Word) (s : State) : NextViaBus s (storeThenHL d s) :=
  ((ViaBus.refl.write _ _).setPair _ _).finish _

theorem storeSp_viaBus (a : Word) (s : State) : NextViaBus s (storeSp a s) :=
  ((ViaBus.refl.write _ _).write _ _).finish _

theorem pushOf_viaBus (p : StackPair) (s : State) : NextViaBus s (pushOf p s) := (ViaBus.refl.push16 _).finish _

theorem stepAtHL_viaBus (f : Byte → Flags → Byte × Flags) (s : State) : NextViaBus s (stepAtHL f s) :=
  ((ViaBus.refl.write _ _).setFlags _).finish _

theorem rotOf_viaBus (op : RotOp) (r : Reg8) (s : State) : NextViaBus s (rotOf op r s) :=
  ((ViaBus.refl.setReg _ _).setFlags _).finish _

theorem rotAt_viaBus (op : RotOp) (s : State) : NextViaBus s (rotAt op s) :=
  ((ViaBus.refl.write _ _).setFlags _).finish _

theorem resetBitAtHL_viaBus (b : Nat) (s : State) : NextViaBus s (resetBitAtHL b s) :=
  (ViaBus.refl.write _ _).finish _

theorem setBitAtHL_viaBus (b : Nat) (s : State) : NextViaBus s (setBitAtHL b s) := (ViaBus.refl.write _ _).finish _

theorem callTo_viaBus (a : Word) (n : Nat) (s : State) : NextViaBus s (finish n (callTo a s)) :=
  (ViaBus.refl.callTo a).finish n

theorem jumpIf_viaBus (cc : Cond) (a : Word) (s : State) : NextViaBus s (jumpIf cc a s) := by
  unfold jumpIf
  split
  · exact (ViaBus.refl.setPc a).finish 4
  · exact ViaBus.refl.finish 3

theorem relativeIf_viaBus (cc : Cond) (e : Byte) (s : State) : NextViaBus s (relativeIf cc e s) := by
  unfold relativeIf
  split
  · exact (ViaBus.refl.setPc _).finish 3
  · exact ViaBus.refl.finish 2

theorem callIf_viaBus (cc : Cond) (a : Word) (s : State) : NextViaBus s (callIf cc a s) := by
  unfold callIf
  split
  · exact callTo_viaBus a 6 s
  · exact ViaBus.refl.finish 3

theorem returnIf_viaBus (cc : Cond) (s : State) : NextViaBus s (returnIf cc s) := by
  unfold returnIf
  split
  · exact ViaBus.refl.returnTo.finish 5
  · exact ViaBus.refl.finish 2

theorem haltCpu_viaBus (s : State) : NextViaBus s (haltCpu s) := by
  unfold haltCpu
  split
  · exact nextViaBus_cpu s _ 1
  · exact nextViaBus_cpu s _ 1

theorem stopCpu_viaBus (s : State) : NextViaBus s (stopCpu s) := by
  unfold stopCpu
  split
  · exact nextViaBus_cpu s _ 1
  · exact ViaBus.refl.raiseFatal _

theorem undefinedOpcode_viaBus (op : Byte) (s : State) : NextViaBus s (undefinedOpcode op s) :=
  ViaBus.refl.raiseFatal _

theorem executeExtended_viaBus (op2 : Byte) (s : State) : NextViaBus s (executeExtended op2 s) := by
  unfold executeExtended
  cases fieldReg (op2.toNat % 8) with
  | some r =>
    dsimp only
    split_ifs
    · exact rotOf_viaBus _ r s
    · exact (ViaBus.refl.setFlags _).finish 2
    · exact (ViaBus.refl.setReg r _).finish 2
    · exact (ViaBus.refl.setReg r _).finish 2
  | none =>
    dsimp only
    split_ifs
    · exact rotAt_viaBus _ s
    · exact (ViaBus.refl.setFlags _).finish 3
    · exact resetBitAtHL_viaBus _ s
    · exact setBitAtHL_viaBus _ s

theorem runExtended_viaBus (s : State) : NextViaBus s (runExtended s) :=
  (ViaBus.refl.setPc _).before (executeExtended_viaBus _ _)

/-- Every instruction answers a next state, reached by changes of the CPU and writes through the bus. The instructions
not named change the CPU alone. -/
theorem exec_viaBus (i : Instr) (s : State) : NextViaBus s (exec i s) := by
  cases i with
  | ld_atBC_A | ld_atDE_A | ld_atHL_n8 | ld_atHL_B | ld_atHL_C | ld_atHL_D | ld_atHL_E | ld_atHL_H | ld_atHL_L
  | ld_atHL_A | ldh_atN8_A | ldh_atC_A | ld_atN16_A => exact storeAt_viaBus _ _ _ s
  | ld_atHLI_A | ld_atHLD_A => exact storeThenHL_viaBus _ s
  | ld_atN16_SP a => exact storeSp_viaBus a s
  | push_BC | push_DE | push_HL | push_AF => exact pushOf_viaBus _ s
  | inc_atHL | dec_atHL => exact stepAtHL_viaBus _ s
  | rlc_atHL | rrc_atHL | rl_atHL | rr_atHL | sla_atHL | sra_atHL | swap_atHL | srl_atHL => exact rotAt_viaBus _ s
  | res_0_atHL | res_1_atHL | res_2_atHL | res_3_atHL | res_4_atHL | res_5_atHL | res_6_atHL | res_7_atHL =>
    exact resetBitAtHL_viaBus _ s
  | set_0_atHL | set_1_atHL | set_2_atHL | set_3_atHL | set_4_atHL | set_5_atHL | set_6_atHL | set_7_atHL =>
    exact setBitAtHL_viaBus _ s
  | call_n16 | rst_00 | rst_08 | rst_10 | rst_18 | rst_20 | rst_28 | rst_30 | rst_38 => exact callTo_viaBus _ _ s
  | call_NZ_n16 a | call_Z_n16 a | call_NC_n16 a | call_C_n16 a => exact callIf_viaBus _ a s
  | ret_NZ | ret_Z | ret_NC | ret_C => exact returnIf_viaBus _ s
  | jp_NZ_n16 a | jp_Z_n16 a | jp_NC_n16 a | jp_C_n16 a => exact jumpIf_viaBus _ a s
  | jr_NZ_e8 e | jr_Z_e8 e | jr_NC_e8 e | jr_C_e8 e => exact relativeIf_viaBus _ e s
  | halt => exact haltCpu_viaBus s
  | stop => exact stopCpu_viaBus s
  | prefixCB => exact runExtended_viaBus s
  | illegal_D3 | illegal_DB | illegal_DD | illegal_E3 | illegal_E4 | illegal_EB | illegal_EC | illegal_ED | illegal_F4
  | illegal_FC | illegal_FD => exact undefinedOpcode_viaBus _ s
  | _ => exact nextViaBus_cpu s _ _

theorem fetchExecute_viaBus (s : State) : NextViaBus s (fetchExecute s) :=
  (ViaBus.refl.cpu _).before (exec_viaBus _ _)

theorem serviceOrFetch_viaBus (s : State) : NextViaBus s (serviceOrFetch s) := by
  unfold serviceOrFetch
  split
  · exact ⟨_, rfl, ViaBus.refl.serviceInterrupt⟩
  · exact fetchExecute_viaBus s

theorem boundary_viaBus (s : State) : NextViaBus s (boundary s) := by
  have hd := ViaBus.refl.cpu (s := s) (delayStep s.cpu)
  unfold boundary
  dsimp only
  split_ifs
  · exact (hd.cpu _).before (serviceOrFetch_viaBus _)
  · exact ⟨_, rfl, hd⟩
  · exact hd.before (serviceOrFetch_viaBus _)

/-- The CPU's share of a cycle always answers, and changes only the CPU and the interrupt masks otherwise than
through the bus (R343). -/
theorem cpuStep_viaBus (s : State) : NextViaBus s (cpuStep s) := by
  unfold cpuStep
  split_ifs
  · exact ⟨_, rfl, ViaBus.refl.cpu _⟩
  · exact ⟨s, rfl, .refl⟩
  · exact boundary_viaBus s

end Sys2Proof.Machine
end

section
/-! PROOF. What the other parts of a step can change, one lemma for each, and which configuration no step changes
(spec/00_scope.md R9, R10; spec/21_io_registers.md R117). -/

namespace Sys2Proof.Machine

/-! What each agent can write. -/

theorem modeAdvance_frame (s : State) :
    ∃ v q fb, modeAdvance s = { s with video := v, irq := q, frameBuffer := fb } := by
  unfold modeAdvance
  dsimp only
  split
  · split_ifs <;> exact ⟨_, _, _, rfl⟩
  · split_ifs <;> exact ⟨_, _, _, rfl⟩
  · unfold afterHBlank
    dsimp only
    split_ifs <;> exact ⟨_, _, _, rfl⟩
  · unfold afterVBlankLine
    dsimp only
    split_ifs <;> exact ⟨_, _, _, rfl⟩

theorem statUpdate_frame (s : State) : ∃ v q, statUpdate s = { s with video := v, irq := q } := by
  unfold statUpdate
  dsimp only
  split_ifs <;> exact ⟨_, _, rfl⟩

/-- The video step writes the video controller, the interrupt flags and the frame buffer (R425, R430). -/
theorem videoStep_frame (s : State) :
    ∃ v q fb, videoStep s = { s with video := v, irq := q, frameBuffer := fb } := by
  unfold videoStep
  split
  · obtain ⟨_, _, _, hm⟩ := modeAdvance_frame s
    obtain ⟨v, q, hs⟩ := statUpdate_frame (modeAdvance s)
    rw [hs, hm]
    exact ⟨v, q, _, rfl⟩
  · exact ⟨_, _, _, rfl⟩

/-- The DMA step writes sprite memory or video RAM, and its own controller (R80, R403). -/
theorem dmaStep_frame (s : State) : ∃ o r d, dmaStep s = { s with oam := o, vram := r, dma := d } := by
  unfold dmaStep
  split
  · exact ⟨_, _, _, rfl⟩
  · split <;> exact ⟨_, _, _, rfl⟩

/-- The timer step writes the timer and the interrupt flags (R386, R387). -/
theorem timerStep_frame (s : State) : ∃ tm q, timerStep s = { s with timer := tm, irq := q } := by
  unfold timerStep timaTick
  dsimp only
  split_ifs <;> exact ⟨_, _, rfl⟩

/-- The frame's books are the frame buffer, `frame_blank` and `frame_cycle` (R588). -/
theorem frameBoundary_frame (s : State) :
    ∃ v fb n, frameBoundary s = { s with video := v, frameBuffer := fb, frameCycle := n } := by
  unfold frameBoundary
  split_ifs <;> exact ⟨_, _, _, rfl⟩

/-- The host's input moves the clock, the joypad and its interrupt flag (R48, R112). -/
theorem applyInput_frame (s : State) :
    ∃ w j q l, applyInput s = { s with now := w, joypad := j, irq := q, inputs := l } := by
  unfold applyInput
  split
  · exact ⟨_, _, _, _, rfl⟩
  · unfold applyEntry
    dsimp only
    split
    · unfold handleJoypad
      dsimp only
      split_ifs <;> exact ⟨_, _, _, _, rfl⟩
    · exact ⟨_, _, _, _, rfl⟩

/-! The configuration. -/

/-- What construction fixes for good: the cartridge's image, kind, equipment and sizes (R9), the boot image and its
ranges, and the open parameters (R10). -/
structure FixedConfig where
  rom : Memory
  kind : CartKind
  hasRam : Bool
  hasBattery : Bool
  hasRtc : Bool
  romSize : Nat
  ramSize : Nat
  bootImage : Memory
  overlay : List (Nat × Nat)
  params : Params

/-- The configuration a state holds. -/
def State.config (s : State) : FixedConfig where
  rom := s.cart.rom
  kind := s.cart.kind
  hasRam := s.cart.hasRam
  hasBattery := s.cart.hasBattery
  hasRtc := s.cart.hasRtc
  romSize := s.cart.romSize
  ramSize := s.cart.ramSize
  bootImage := s.boot.image
  overlay := s.boot.overlay
  params := s.params

/-- `t` has the configuration of `s` and, once the boot image is unmapped, it stays so and the mode bit is fixed. -/
structure KeepsConfig (s t : State) : Prop where
  config : t.config = s.config
  mode : s.boot.mapped = false → t.boot.mapped = false ∧ t.bus.enhanced = s.bus.enhanced

theorem KeepsConfig.refl (s : State) : KeepsConfig s s := ⟨rfl, fun h => ⟨h, rfl⟩⟩

theorem KeepsConfig.trans {s t u : State} (h : KeepsConfig s t) (k : KeepsConfig t u) : KeepsConfig s u where
  config := k.config.trans h.config
  mode hm :=
    have ht := h.mode hm
    have hu := k.mode ht.1
    ⟨hu.1, hu.2.trans ht.2⟩

/-- A change outside cartridge, boot overlay, bus registers and parameters keeps the configuration. -/
theorem KeepsConfig.of_eq {s t : State} (hc : t.cart = s.cart) (hb : t.boot = s.boot) (hu : t.bus = s.bus)
    (hp : t.params = s.params) : KeepsConfig s t where
  config := by simp only [State.config, hc, hb, hp]
  mode hm := by simp only [hb, hm, hu, and_self]

/-! Writes through the bus. -/

/-- A bank-select write keeps what the cartridge is equipped with (R537). -/
theorem Cart.bankWrite_equipment (c : Cart) (now addr : Nat) (v : Byte) :
    (c.bankWrite now addr v).hasRam = c.hasRam ∧ (c.bankWrite now addr v).hasBattery = c.hasBattery ∧
      (c.bankWrite now addr v).hasRtc = c.hasRtc := by
  unfold Cart.bankWrite
  split
  · exact ⟨rfl, rfl, rfl⟩
  · unfold mbc1Write
    split_ifs <;> exact ⟨rfl, rfl, rfl⟩
  · unfold mbc3Write
    repeat' split
    all_goals exact ⟨rfl, rfl, rfl⟩
  · unfold mbc5Write
    split_ifs <;> exact ⟨rfl, rfl, rfl⟩

theorem bankWrite_keepsConfig (s : State) (now addr : Nat) (v : Byte) :
    KeepsConfig s { s with cart := s.cart.bankWrite now addr v } where
  config := by
    obtain ⟨hrom, _, hkind, hromSize, hramSize⟩ := Cart.bankWrite_keeps s.cart now addr v
    obtain ⟨hram, hbattery, hrtc⟩ := Cart.bankWrite_equipment s.cart now addr v
    simp only [State.config, hrom, hkind, hromSize, hramSize, hram, hbattery, hrtc]
  mode hm := ⟨hm, rfl⟩

/-- The two registers that matter: KEY0 sets the mode bit only while the boot image is mapped (R117), and the unmap
latch is only ever cleared. -/
theorem ioWrite_keepsConfig (s : State) (r : IoReg) (v : Byte) : KeepsConfig s (ioWrite s r v) := by
  cases r with
  | key0 =>
    unfold ioWrite
    dsimp only
    split
    · next hmap => exact ⟨rfl, fun hm => absurd (hmap.symm.trans hm) (by decide)⟩
    · exact .refl s
  | bank => exact ⟨rfl, fun _ => ⟨rfl, rfl⟩⟩
  | _ => exact ⟨rfl, fun hm => ⟨hm, rfl⟩⟩

theorem memWrite_keepsConfig (s : State) (a : Word) (v : Byte) : KeepsConfig s (memWrite s a v) := by
  unfold memWrite
  cases locate s a with
  | bootRom => exact bankWrite_keepsConfig s _ _ v
  | rom => exact bankWrite_keepsConfig s _ _ v
  | reg r => exact ioWrite_keepsConfig s r v
  | _ => exact ⟨rfl, fun hm => ⟨hm, rfl⟩⟩

/-- So whatever reaches a state by the CPU and the bus keeps the configuration. -/
theorem ViaBus.keepsConfig {s t : State} (h : ViaBus s t) : KeepsConfig s t := by
  induction h with
  | refl => exact .refl s
  | cpu c _ ih => exact ih.trans (.of_eq rfl rfl rfl rfl)
  | irq q _ ih => exact ih.trans (.of_eq rfl rfl rfl rfl)
  | write a v _ ih => exact ih.trans (memWrite_keepsConfig _ a v)

/-! The step. -/

theorem cpuStep_keepsConfig {s t : State} (h : cpuStep s = .next t) : KeepsConfig s t := by
  obtain ⟨u, hu, hv⟩ := cpuStep_viaBus s
  obtain rfl : u = t := by simpa [hu] using h
  exact hv.keepsConfig

theorem peripherals_keepsConfig (s : State) : KeepsConfig s (peripherals s) := by
  obtain ⟨_, _, _, hv⟩ := videoStep_frame s
  obtain ⟨_, _, _, hd⟩ := dmaStep_frame (soundStep (videoStep s))
  obtain ⟨_, _, ht⟩ := timerStep_frame (dmaStep (soundStep (videoStep s)))
  rw [peripherals_eq, ht, hd, hv]
  exact .of_eq rfl rfl rfl rfl

theorem machineCycle_keepsConfig {s t : State} (h : machineCycle s = .next t) : KeepsConfig s t := by
  obtain ⟨u, hu, ⟨_, rfl⟩ | ⟨_, rfl⟩⟩ := machineCycle_cases h
  · exact cpuStep_keepsConfig hu
  · exact (cpuStep_keepsConfig hu).trans (peripherals_keepsConfig u)

theorem applyInput_keepsConfig (s : State) : KeepsConfig s (applyInput s) := by
  obtain ⟨_, _, _, _, h⟩ := applyInput_frame s
  rw [h]
  exact .of_eq rfl rfl rfl rfl

theorem frameBoundary_keepsConfig (s : State) : KeepsConfig s (frameBoundary s) := by
  obtain ⟨_, _, _, h⟩ := frameBoundary_frame s
  rw [h]
  exact .of_eq rfl rfl rfl rfl

/-- Input, machine cycle and frame boundary in turn. -/
theorem step_keepsConfig {s t : State} (h : step s = .next t) : KeepsConfig s t := by
  obtain ⟨_, u, hu, rfl⟩ := step_cases h
  exact ((applyInput_keepsConfig s).trans (machineCycle_keepsConfig hu)).trans (frameBoundary_keepsConfig u)

/-- Settles O38: the CPU reaches the configuration only through the bus, whose writes leave it alone, and no other
agent touches it. -/
theorem configurationNeverChanges : Obligations.ConfigurationNeverChanges := by
  intro s t h
  obtain ⟨hconfig, hmode⟩ := step_keepsConfig h
  obtain ⟨hrom, hkind, hram, hbattery, hrtc, hromSize, hramSize, himage, hoverlay, hparams⟩ :=
    FixedConfig.mk.inj hconfig
  exact ⟨hrom, hkind, hram, hbattery, hrtc, hromSize, hramSize, himage, hoverlay, hparams, fun hm => (hmode hm).2⟩

end Sys2Proof.Machine
end

section
/-! PROOF. What construction from an image gives (spec/65_cartridge.md R530 to R534, R563; spec/70_reset_and_hazards.md
R570, R573). -/

namespace Sys2Proof.Machine

/-- A cartridge that parses is in its reset state: the bank registers of R563 and the clock of R560. -/
theorem parseCartridge_reset {image : List Byte} {now : Nat} {c : Cart} (h : parseCartridge image now = .ok c) :
    c.romBank = 1 ∧ c.ramBank = 0 ∧ c.rtc = Rtc.reset now := by
  unfold parseCartridge at h
  split at h
  · cases h
  · split at h
    · cases h
    · split at h
      · cases h
      · split at h
        · cases h
        · cases h
          exact ⟨rfl, rfl, rfl⟩

/-- Bank 1, RAM bank 0 and a clock just set are in range on every controller. -/
theorem cartOk_of_reset {c : Cart} {now : Nat} (hrom : c.romBank = 1) (hram : c.ramBank = 0)
    (hrtc : c.rtc = Rtc.reset now) : CartOk c := by
  unfold CartOk
  rw [hrom, hram, hrtc]
  exact ⟨by cases c.kind <;> decide, by cases c.kind <;> decide, by simp [Rtc.reset]⟩

theorem videoOk_reset : VideoOk Video.reset := by decide

theorem soundOk_reset : SoundOk Sound.reset := by decide

/-- The storage arrays are within their sizes whatever the host lists in `RESET_REGS`; every controller is in its
reset state. -/
theorem loadCartridge_inv {c : HostConfig} {image : List Byte} {s : State} (h : loadCartridge c image = .ok s) :
    Inv s := by
  obtain ⟨cart, hcart, rfl⟩ := loadCartridge_spec h
  obtain ⟨hrom, hram, hrtc⟩ := parseCartridge_reset hcart
  have hlines : ∀ row ∈ State.reset.frameBuffer, row = none := fun _ => List.eq_of_mem_replicate
  have harray := Memory.ofBytes_ok
  exact
    ⟨⟨harray _ _, harray _ _, harray _ _, harray _ _, harray _ _, harray _ _, harray _ _, harray _ _⟩,
      ⟨Nat.zero_le 2, Nat.zero_le 5, nofun⟩, videoOk_reset,
      ⟨rfl, fun row hrow => by rw [hlines row hrow]; rfl, Nat.zero_lt_succ _⟩, soundOk_reset,
      cartOk_of_reset hrom hram hrtc, nofun, rfl⟩

/-- The start without a boot image keeps the invariant: with the display on nothing is asked of the initial state
(R432), and the sound power is no part of it. -/
theorem launchWithoutBoot_inv {s : State} (hs : Inv s) (enhanced : Bool) (a b c d e h l : Byte) (f : Flags) :
    Inv (launchWithoutBoot s enhanced a b c d e h l f) := by
  obtain ⟨harrays, hcpu, ⟨hly, hmode, hcycles, hbcps, hocps, hblank, _⟩, hframe, hsound, hcart, hdma, htimer⟩ := hs
  have hon : ∀ v : Video, Video.on { v with lcdc := 0x91 } ≠ false := fun _ => show bit 0x91 7 ≠ false by decide
  exact ⟨harrays, hcpu, ⟨hly, hmode, hcycles, hbcps, hocps, hblank, fun hoff => absurd hoff (hon _)⟩, hframe, hsound,
    hcart, hdma, htimer⟩

/-- Settles O59: the arrays of a constructed System are built from the listed bytes, and its controllers are at
reset. -/
theorem loadedSystemMeetsTheInvariant : Obligations.LoadedSystemMeetsTheInvariant := by
  intro c image s h
  have hinv := loadCartridge_inv h
  obtain ⟨cart, _, rfl⟩ := loadCartridge_spec h
  have hread : ∀ n bs, ∀ i < n, Memory.read (Memory.ofBytes n bs) i = bs.getD i 0 :=
    fun _ bs _ hi => Memory.read_ofBytes bs hi
  exact ⟨rfl, hread _ _, hread _ _, hread _ _, hread _ _, fun i hi => ⟨hread _ _ i hi, hread _ _ i hi⟩, hread _ _,
    hread _ _, hinv, launchWithoutBoot_inv hinv⟩

end Sys2Proof.Machine
end

section
/-! PROOF. What each row of the opcode table does to the CPU's control state: `ime`, `ime_delay`, `halted`, `halt_bug`,
`double_speed` and `fatal` (spec/10_state.md R28 to R33; spec/46_system.md R320 to R328). -/

namespace Sys2Proof.Machine

/-- The control state of the CPU. -/
structure ControlState where
  ime : Bool
  imeDelay : Nat
  halted : Bool
  haltBug : Bool
  doubleSpeed : Bool
  fatal : Option FatalReason

/-- The control state a CPU holds. -/
def Cpu.control (c : Cpu) : ControlState := ⟨c.ime, c.imeDelay, c.halted, c.haltBug, c.doubleSpeed, c.fatal⟩

@[simp] theorem State.setReg_control (s : State) (r : Reg8) (v : Byte) :
    (s.setReg r v).cpu.control = s.cpu.control := by cases r <;> rfl
@[simp] theorem State.setPair_control (s : State) (p : Pair) (v : Word) :
    (s.setPair p v).cpu.control = s.cpu.control := by cases p <;> rfl
@[simp] theorem State.setFlags_control (s : State) (f : Flags) : (s.setFlags f).cpu.control = s.cpu.control := rfl
@[simp] theorem State.setSp_control (s : State) (a : Word) : (s.setSp a).cpu.control = s.cpu.control := rfl
@[simp] theorem State.setPc_control (s : State) (a : Word) : (s.setPc a).cpu.control = s.cpu.control := rfl

@[simp] theorem memWrite_control (s : State) (a : Word) (v : Byte) :
    (memWrite s a v).cpu.control = s.cpu.control := by
  obtain ⟨_, h⟩ := memWrite_cpu s a v
  rw [h]
  rfl

@[simp] theorem push16_control (s : State) (v : Word) : (push16 s v).cpu.control = s.cpu.control := by
  simp [push16_spec]

@[simp] theorem callTo_control (a : Word) (s : State) : (callTo a s).cpu.control = s.cpu.control := by
  simp [callTo_spec]

/-- The outcome `o` ends an instruction of at most six cycles with the control state of `s`. -/
def KeepsControl (s : State) (o : Out) : Prop :=
  ∃ n u, o = finish n u ∧ n ≤ 6 ∧ u.cpu.control = s.cpu.control

theorem KeepsControl.finish {s u : State} {n : Nat} (hn : n ≤ 6) (hu : u.cpu.control = s.cpu.control) :
    KeepsControl s (finish n u) := ⟨n, u, rfl, hn, hu⟩

theorem KeepsControl.ite {s : State} {p : Prop} [Decidable p] {o o' : Out} (h : KeepsControl s o)
    (h' : KeepsControl s o') : KeepsControl s (if p then o else o') := iteInduction (fun _ => h) fun _ => h'

theorem executeExtended_keepsControl (op2 : Byte) (s : State) : KeepsControl s (executeExtended op2 s) := by
  unfold executeExtended
  cases fieldReg (op2.toNat % 8) with
  | some r =>
    exact .ite (.finish (by decide) (by simp)) (.ite (.finish (by decide) rfl)
      (.ite (.finish (by decide) (by simp)) (.finish (by decide) (by simp))))
  | none =>
    exact .ite (.finish (by decide) (by simp)) (.ite (.finish (by decide) rfl)
      (.ite (.finish (by decide) (by simp)) (.finish (by decide) (by simp))))

/-- The rows by what they do to the control state: six kinds write it, every other row keeps it. -/
inductive ExecCase (s : State) : Instr → Out → Prop where
  | ordinary {i : Instr} {o : Out} : KeepsControl s o → ExecCase s i o
  | di : ExecCase s .di (execDi s)
  | ei : ExecCase s .ei (execEi s)
  | reti : ExecCase s .reti (execReti s)
  | halt : ExecCase s .halt (haltCpu s)
  | stop (pad : Byte) : ExecCase s (.stop pad) (stopCpu s)
  | undefined (op : Byte) (i : Instr) : (op, i) ∈ Instr.undefinedOpcodes → ExecCase s i (undefinedOpcode op s)

theorem exec_case (i : Instr) (s : State) : ExecCase s i (exec i s) := by
  cases i with
  | di => exact .di
  | ei => exact .ei
  | reti => exact .reti
  | halt => exact .halt
  | stop pad => exact .stop pad
  | illegal_D3 | illegal_DB | illegal_DD | illegal_E3 | illegal_E4 | illegal_EB | illegal_EC | illegal_ED | illegal_F4
  | illegal_FC | illegal_FD => exact .undefined _ _ (by decide)
  | prefixCB => exact .ordinary (executeExtended_keepsControl _ (s.setPc _))
  | jp_NZ_n16 | jp_Z_n16 | jp_NC_n16 | jp_C_n16 | jr_NZ_e8 | jr_Z_e8 | jr_NC_e8 | jr_C_e8 | ret_NZ | ret_Z | ret_NC
  | ret_C => exact .ordinary (.ite (.finish (by decide) rfl) (.finish (by decide) rfl))
  | call_NZ_n16 | call_Z_n16 | call_NC_n16 | call_C_n16 =>
    exact .ordinary (.ite (.finish (by decide) (callTo_control _ s)) (.finish (by decide) rfl))
  | call_n16 | rst_00 | rst_08 | rst_10 | rst_18 | rst_20 | rst_28 | rst_30 | rst_38 =>
    exact .ordinary (.finish (by decide) (callTo_control _ s))
  | push_BC | push_DE | push_HL | push_AF => exact .ordinary (.finish (by decide) (push16_control s _))
  | inc_BC | inc_DE | inc_HL | inc_SP | dec_BC | dec_DE | dec_HL | dec_SP =>
    exact .ordinary (.finish (by decide) (State.setPair_control s _ _))
  | ld_atHLI_A | ld_atHLD_A => exact .ordinary (.finish (by decide) (by simp))
  | ld_atN16_SP => exact .ordinary (.finish (by decide) ((memWrite_control _ _ _).trans (memWrite_control s _ _)))
  | ld_atBC_A | ld_atDE_A | ld_atHL_n8 | ld_atHL_B | ld_atHL_C | ld_atHL_D | ld_atHL_E | ld_atHL_H | ld_atHL_L
  | ld_atHL_A | ldh_atN8_A | ldh_atC_A | ld_atN16_A | inc_atHL | dec_atHL
  | rlc_atHL | rrc_atHL | rl_atHL | rr_atHL | sla_atHL | sra_atHL | swap_atHL | srl_atHL
  | res_0_atHL | res_1_atHL | res_2_atHL | res_3_atHL | res_4_atHL | res_5_atHL | res_6_atHL | res_7_atHL
  | set_0_atHL | set_1_atHL | set_2_atHL | set_3_atHL | set_4_atHL | set_5_atHL | set_6_atHL | set_7_atHL =>
    exact .ordinary (.finish (by decide) (memWrite_control s _ _))
  | _ => exact .ordinary (.finish (by decide) rfl)

/-- Settles O34: the six kinds of row that write control state, and each clause excepts the ones that write its
field. -/
theorem controlStateWriters : Obligations.ControlStateWriters := by
  intro i s t h
  have hcase := exec_case i s
  rw [h] at hcase
  generalize ho : Host.Outcome.next t = o at hcase
  cases hcase with
  | ordinary hkeeps =>
    obtain ⟨n, u, rfl, _, hu⟩ := hkeeps
    obtain rfl := finish_spec ho.symm
    obtain ⟨hime, hdelay, hhalted, hbug, hspeed, hfatal⟩ := ControlState.mk.inj hu
    exact ⟨fun _ _ => hime, fun _ _ _ => hdelay, fun _ => ⟨hhalted, hbug⟩, fun _ => hspeed, fun _ _ => hfatal⟩
  | di =>
    obtain rfl := finish_spec ho.symm
    exact ⟨fun hdi => absurd rfl hdi, fun hdi => absurd rfl hdi, fun _ => ⟨rfl, rfl⟩, fun _ => rfl, fun _ _ => rfl⟩
  | ei =>
    obtain rfl := finish_spec ho.symm
    exact ⟨fun _ _ => rfl, fun _ _ hei => absurd rfl hei, fun _ => ⟨rfl, rfl⟩, fun _ => rfl, fun _ _ => rfl⟩
  | reti =>
    obtain rfl := finish_spec ho.symm
    exact ⟨fun _ hreti => absurd rfl hreti, fun _ hreti => absurd rfl hreti, fun _ => ⟨rfl, rfl⟩, fun _ => rfl,
      fun _ _ => rfl⟩
  | halt =>
    unfold haltCpu at ho
    split at ho <;> obtain rfl := finish_spec ho.symm <;>
      exact ⟨fun _ _ => rfl, fun _ _ _ => rfl, fun hhalt => absurd rfl hhalt, fun _ => rfl, fun _ _ => rfl⟩
  | stop pad =>
    unfold stopCpu at ho
    split at ho
    · obtain rfl := finish_spec ho.symm
      exact ⟨fun _ _ => rfl, fun _ _ _ => rfl, fun _ => ⟨rfl, rfl⟩, fun hstop => absurd rfl (hstop pad), fun _ _ => rfl⟩
    · obtain rfl := raiseFatal_spec ho.symm
      exact ⟨fun _ _ => rfl, fun _ _ _ => rfl, fun _ => ⟨rfl, rfl⟩, fun _ => rfl, fun hstop => absurd rfl (hstop pad)⟩
  | undefined op _ hmem =>
    obtain rfl := raiseFatal_spec ho.symm
    exact ⟨fun _ _ => rfl, fun _ _ _ => rfl, fun _ => ⟨rfl, rfl⟩, fun _ => rfl,
      fun _ hundef => absurd rfl (hundef (op, i) hmem)⟩

end Sys2Proof.Machine
end

section
/-! PROOF. The boot overlay's latch (spec/10_state.md R37; spec/20_memory.md R64; spec/21_io_registers.md R120). -/

namespace Sys2Proof.Machine

/-- Below 0x8000 an address names a byte of the boot image where the mapped overlay covers it, else one of the
cartridge (R64). -/
theorem locate_below_8000 (s : State) {a : Word} (ha : a.toNat < 0x8000) :
    locate s a =
      if s.boot.mapped = true ∧ s.boot.covers a.toNat = true then .bootRom a.toNat
      else .rom (romOffset s.cart a.toNat) := by
  simp only [locate, if_pos ha, Bool.and_eq_true]

theorem memWrite_bank (s : State) (v : Byte) :
    memWrite s 0xFF50 v = { s with boot := { s.boot with mapped := false } } := rfl

/-- Settles O37: no write sets the latch and its register clears it; the address map decides between overlay and
cartridge. -/
theorem unmapLatchIsOneWay : Obligations.UnmapLatchIsOneWay := by
  refine ⟨rfl, fun s v => by rw [memWrite_bank], fun s t h hmapped => ((step_keepsConfig h).mode hmapped).1, ?_⟩
  intro s a ha
  rw [memRead, locate_below_8000 s ha]
  split <;> rfl

end Sys2Proof.Machine
end

section
/-! PROOF. Register pairs, the flag byte and the reset values (spec/10_state.md R21, R23, R50 to R54). -/

namespace Sys2Proof.Machine

/-- Bits 3:0 of `F` read as zero (R23). -/
theorem Flags.toByte_lowNibble (f : Flags) : f.toByte &&& 0x0F = 0 := by
  obtain ⟨z, n, h, c⟩ := f
  revert z n h c
  decide

/-- A byte written to `F` keeps its high nibble (R23). -/
theorem Flags.toByte_ofByte (v : Byte) : (Flags.ofByte v).toByte = v &&& 0xF0 := by
  revert v
  decide

/-- Clearing the low nibble of a word clears that of its low byte. -/
theorem joinBytes_hi_lo_highNibble (v : Word) : joinBytes (hiByte v) (loByte v &&& 0xF0) = v &&& 0xFFF0 := by
  calc joinBytes (hiByte v) (loByte v &&& 0xF0)
      = joinBytes (hiByte v &&& BitVec.allOnes 8) (loByte v &&& 0xF0) := by rw [BitVec.and_allOnes]
    _ = joinBytes (hiByte v) (loByte v) &&& joinBytes (BitVec.allOnes 8) 0xF0 := BitVec.and_append.symm
    _ = v &&& 0xFFF0 := by rw [joinBytes_hi_lo]; rfl

/-- Settles O8: pairs are joined bytes by definition, and `F` stores four bits. -/
theorem pairsAndTheFlagByte : Obligations.PairsAndTheFlagByte := by
  intro s v x y
  refine ⟨rfl, rfl, rfl, joinBytes_toNat x y, joinBytes_toNat x y, joinBytes_toNat x y, rfl, Flags.toByte_lowNibble,
    Flags.toByte_ofByte x, rfl, ?_⟩
  show joinBytes (hiByte v) (Flags.ofByte (loByte v)).toByte = v &&& 0xFFF0
  rw [Flags.toByte_ofByte, joinBytes_hi_lo_highNibble]

/-- Settles O57: the reset state field by field; the sound registers read as the powered-off controller's do (R493). -/
theorem resetValues : Obligations.ResetValues := by
  refine ⟨rfl, rfl, rfl, rfl, rfl, rfl, rfl, rfl, rfl, fun i => ⟨rfl, rfl, rfl, rfl, rfl, rfl, rfl, rfl⟩, rfl, rfl,
    rfl, rfl, rfl, rfl, rfl, rfl, rfl, rfl, rfl, rfl, rfl, rfl, rfl, fun r => rfl, ?_, rfl, rfl, rfl⟩
  decide

end Sys2Proof.Machine
end

section
/-! PROOF. The CPU's part of the invariant, and that a cycle which raises a fatal condition changes the CPU alone
(spec/10_state.md R29 to R31; spec/60_exceptions.md R341, R343). -/

namespace Sys2Proof.Machine

/-- `t` meets the CPU's part of the invariant and, if it is fatal, differs from `s` in the CPU alone. -/
structure CpuShareOk (s t : State) : Prop where
  cpu : CpuOk t
  fatal : t.cpu.fatal.isSome = true → ∃ c, t = { s with cpu := c }

/-- A change of the CPU may be put in front. -/
theorem CpuShareOk.before {s t : State} {c : Cpu} (h : CpuShareOk { s with cpu := c } t) : CpuShareOk s t where
  cpu := h.cpu
  fatal hf := by
    obtain ⟨d, hd⟩ := h.fatal hf
    exact ⟨d, hd⟩

/-- The end of a row that kept the control state. -/
theorem KeepsControl.cpuShareOk {s t : State} (hs : CpuOk s) (hlive : s.cpu.fatal = none)
    (hkeeps : KeepsControl s (.next t)) (hparams : t.params = s.params) : CpuShareOk s t := by
  obtain ⟨n, u, ht, hn, hu⟩ := hkeeps
  obtain rfl := finish_spec ht.symm
  obtain ⟨_, hdelay, _, hbug, _, hfatal⟩ := ControlState.mk.inj hu
  obtain ⟨hdelay2, _, hbugParam⟩ := hs
  refine ⟨⟨?_, ?_, ?_⟩, fun hf => ?_⟩
  · exact hdelay ▸ hdelay2
  · show n - 1 ≤ 5
    omega
  · exact fun hb => (congrArg Params.haltBug hparams).trans (hbugParam (hbug ▸ hb))
  · rw [show _ = none from hfatal.trans hlive] at hf
    cases hf

theorem exec_cpuShareOk {i : Instr} {s t : State} (hs : CpuOk s) (hlive : s.cpu.fatal = none)
    (h : exec i s = .next t) : CpuShareOk s t := by
  have hparams : t.params = s.params := by
    obtain ⟨u, hu, hv⟩ := exec_viaBus i s
    obtain rfl : u = t := by simpa [hu] using h
    exact congrArg FixedConfig.params hv.keepsConfig.config
  obtain ⟨hdelay, hcyc, hbug⟩ := hs
  have hcase := exec_case i s
  rw [h] at hcase
  generalize ho : Host.Outcome.next t = o at hcase
  cases hcase with
  | ordinary hkeeps => exact KeepsControl.cpuShareOk ⟨hdelay, hcyc, hbug⟩ hlive (ho ▸ hkeeps) hparams
  | di =>
    obtain rfl := finish_spec ho.symm
    exact ⟨⟨Nat.zero_le 2, Nat.zero_le 5, hbug⟩, fun _ => ⟨_, rfl⟩⟩
  | ei =>
    obtain rfl := finish_spec ho.symm
    exact ⟨⟨Nat.le_refl 2, Nat.zero_le 5, hbug⟩, fun _ => ⟨_, rfl⟩⟩
  | reti =>
    obtain rfl := finish_spec ho.symm
    exact ⟨⟨Nat.zero_le 2, (by decide : 4 - 1 ≤ 5), hbug⟩, fun _ => ⟨_, rfl⟩⟩
  | halt =>
    unfold haltCpu at ho
    split at ho
    · next hcond =>
      obtain rfl := finish_spec ho.symm
      simp only [Bool.and_eq_true] at hcond
      exact ⟨⟨hdelay, Nat.zero_le 5, fun _ => hcond.1.1⟩, fun _ => ⟨_, rfl⟩⟩
    · obtain rfl := finish_spec ho.symm
      exact ⟨⟨hdelay, Nat.zero_le 5, hbug⟩, fun _ => ⟨_, rfl⟩⟩
  | stop pad =>
    unfold stopCpu at ho
    split at ho
    · obtain rfl := finish_spec ho.symm
      exact ⟨⟨hdelay, Nat.zero_le 5, hbug⟩, fun _ => ⟨_, rfl⟩⟩
    · obtain rfl := raiseFatal_spec ho.symm
      exact ⟨⟨hdelay, hcyc, hbug⟩, fun _ => ⟨_, rfl⟩⟩
  | undefined op _ _ =>
    obtain rfl := raiseFatal_spec ho.symm
    exact ⟨⟨hdelay, hcyc, hbug⟩, fun _ => ⟨_, rfl⟩⟩

theorem fetchExecute_cpuShareOk {s t : State} (hs : CpuOk s) (hlive : s.cpu.fatal = none)
    (h : fetchExecute s = .next t) : CpuShareOk s t := by
  obtain ⟨hdelay, hcyc, _⟩ := hs
  have hstart : CpuOk { s with cpu := { s.cpu with pc := pcAfterFetch s, haltBug := false, fetchAddr := s.cpu.pc } } :=
    ⟨hdelay, hcyc, fun hb => absurd hb Bool.false_ne_true⟩
  exact (exec_cpuShareOk hstart hlive h).before

/-- Taking an interrupt costs five cycles and raises nothing (R352). -/
theorem serviceInterrupt_cpuShareOk {s : State} (hs : CpuOk s) (hlive : s.cpu.fatal = none) :
    CpuShareOk s (serviceInterrupt s) := by
  obtain ⟨hdelay, hcyc, hbug⟩ := hs
  unfold serviceInterrupt
  split
  · next k q hpop =>
    obtain ⟨_, _, hdelay', hcyc', _⟩ := enterHandler_spec { s with irq := q } k
    have hcontrol : (enterHandler { s with irq := q } k).cpu.control =
        { s.cpu.control with ime := false, imeDelay := 0 } := push16_control _ _
    obtain ⟨_, _, _, hbug', _, hfatal⟩ := ControlState.mk.inj hcontrol
    have hparams : (enterHandler { s with irq := q } k).params = s.params :=
      congrArg FixedConfig.params ((ViaBus.refl.irq q).enterHandler k).keepsConfig.config
    refine ⟨⟨hdelay' ▸ Nat.zero_le 2, hcyc' ▸ by decide, fun hb => ?_⟩, fun hf => ?_⟩
    · exact (congrArg Params.haltBug hparams).trans (hbug (hbug'.symm.trans hb))
    · rw [show _ = none from hfatal.trans hlive] at hf
      cases hf
  · exact ⟨⟨hdelay, hcyc, hbug⟩, fun _ => ⟨_, rfl⟩⟩

theorem serviceOrFetch_cpuShareOk {s t : State} (hs : CpuOk s) (hlive : s.cpu.fatal = none)
    (h : serviceOrFetch s = .next t) : CpuShareOk s t := by
  unfold serviceOrFetch at h
  split at h
  · obtain rfl : serviceInterrupt s = t := by simpa using h
    exact serviceInterrupt_cpuShareOk hs hlive
  · exact fetchExecute_cpuShareOk hs hlive h

/-- The delayed enable counts down and writes nothing else the invariant or `fatal` speaks of (R29). -/
theorem delayStep_spec (c : Cpu) :
    (delayStep c).imeDelay = c.imeDelay - 1 ∧ (delayStep c).cyc = c.cyc ∧ (delayStep c).haltBug = c.haltBug ∧
      (delayStep c).fatal = c.fatal := by
  unfold delayStep
  split
  · next h => exact ⟨by omega, rfl, rfl, rfl⟩
  · exact ⟨rfl, rfl, rfl, rfl⟩

theorem boundary_cpuShareOk {s t : State} (hs : CpuOk s) (hlive : s.cpu.fatal = none) (h : boundary s = .next t) :
    CpuShareOk s t := by
  obtain ⟨hdelay', hcyc', hbug', hfatal'⟩ := delayStep_spec s.cpu
  obtain ⟨hdelay, hcyc, hbug⟩ := hs
  have hd : CpuOk { s with cpu := delayStep s.cpu } := by
    refine ⟨?_, ?_, ?_⟩ <;> dsimp only
    · omega
    · omega
    · exact hbug' ▸ hbug
  have hl := hfatal'.trans hlive
  have hawake : CpuOk { s with cpu := { delayStep s.cpu with halted := false } } := hd
  unfold boundary at h
  dsimp only at h
  split_ifs at h
  · exact (serviceOrFetch_cpuShareOk hawake hl h).before
  · obtain rfl : { s with cpu := delayStep s.cpu } = t := by simpa using h
    exact ⟨hd, fun _ => ⟨_, rfl⟩⟩
  · exact (serviceOrFetch_cpuShareOk hd hl h).before

theorem cpuStep_cpuShareOk {s t : State} (hs : CpuOk s) (hlive : s.cpu.fatal = none) (h : cpuStep s = .next t) :
    CpuShareOk s t := by
  obtain ⟨_, rfl⟩ | ⟨_, _, rfl⟩ | ⟨_, _, hb⟩ := cpuStep_cases h
  · obtain ⟨hdelay, hcyc, hbug⟩ := hs
    exact ⟨⟨hdelay, (Nat.sub_le _ _).trans hcyc, hbug⟩, fun _ => ⟨_, rfl⟩⟩
  · exact ⟨hs, fun _ => ⟨_, rfl⟩⟩
  · exact boundary_cpuShareOk hs hlive hb

end Sys2Proof.Machine
end

section
/-! PROOF. Every storage index the address map gives is inside its array (spec/10_state.md R36; spec/20_memory.md R61). -/

namespace Sys2Proof.Machine

/-- A storage location is inside its array. -/
def Location.InSize (c : Cart) : Location → Prop
  | .vram i => i < 16384
  | .cartRam i => i < c.ramSize
  | .wram i => i < 32768
  | .oam i => i < 160
  | .waveRam i => i < 16
  | .hram i => i < 127
  | _ => True

/-- The video RAM has two banks (R66). -/
theorem vramBank_le (s : State) : vramBank s ≤ 1 := by
  have := s.video.vbk.isLt
  unfold vramBank
  split <;> omega

/-- The work RAM has eight banks (R69). -/
theorem wramBank_le (s : State) : wramBank s ≤ 7 := by
  have := s.bus.svbk.isLt
  unfold wramBank
  split_ifs <;> omega

theorem ramByteIndex_lt {c : Cart} (h : c.ramSize ≠ 0) (bank off : Nat) : ramByteIndex c bank off < c.ramSize :=
  Nat.mod_lt _ (Nat.pos_of_ne_zero h)

/-- A byte of `cart_ram` shows in the window only where there is RAM: every arm that answers one tests the size (R535). -/
theorem cartWindow_ram_lt {c : Cart} {off i : Nat} (h : cartWindow c off = .ram i) : i < c.ramSize := by
  unfold cartWindow at h
  repeat' split at h
  all_goals cases h
  all_goals exact ramByteIndex_lt (by simp_all) _ _

theorem locateWindow_inSize (c : Cart) (off : Nat) : (locateWindow c off).InSize c := by
  unfold locateWindow
  split
  · next i h => exact cartWindow_ram_lt h
  · trivial
  · trivial

theorem locatePage_inSize (c : Cart) {off : Nat} (h : off < 256) : (locatePage off).InSize c := by
  unfold locatePage
  split
  · trivial
  · next hreg =>
    have hie : off ≠ 255 := by
      rintro rfl
      exact absurd hreg (by decide)
    split_ifs
    · show off - 128 < 127
      omega
    · show off - 48 < 16
      omega
    · trivial

theorem locate_inSize (s : State) (a : Word) : (locate s a).InSize s.cart := by
  have ha := a.isLt
  have hv := vramBank_le s
  have hw := wramBank_le s
  unfold locate
  dsimp only
  split_ifs
  · trivial
  · trivial
  · show vramBank s * 8192 + (a.toNat - 32768) < 16384
    omega
  · exact locateWindow_inSize _ _
  · show a.toNat - 49152 < 32768
    omega
  · show wramBank s * 4096 + (a.toNat - 53248) < 32768
    omega
  · show a.toNat - 57344 < 32768
    omega
  · show wramBank s * 4096 + (a.toNat - 61440) < 32768
    omega
  · show a.toNat - 65024 < 160
    omega
  · trivial
  · generalize hoff : a.toNat - 0xFF00 = off
    exact locatePage_inSize s.cart (by omega)

end Sys2Proof.Machine
end

section
/-! PROOF. Every operation of the cartridge keeps the bank registers and the clock in range (spec/65_cartridge.md R541 to
R558). -/

namespace Sys2Proof.Machine

/-- After `normalise()` less than 512 days have elapsed (R554). -/
theorem Rtc.elapsed_normalise_lt (r : Rtc) (now : Nat) : (r.normalise now).elapsed now < rtcSpan := by
  have hpos : 0 < rtcSpan := by decide
  have hmod := Nat.mod_lt (r.elapsed now) hpos
  have hdiv := Nat.div_add_mod' (r.elapsed now) rtcSpan
  unfold Rtc.normalise
  dsimp only
  split
  · next hz => exact (Nat.div_eq_zero_iff.mp hz).resolve_left hpos.ne'
  · generalize r.elapsed now / rtcSpan * rtcSpan = lost at hdiv ⊢
    generalize r.elapsed now % rtcSpan = rest at hdiv hmod
    unfold Rtc.elapsed at hdiv ⊢
    split
    · next hhalted =>
      simp only [if_pos hhalted] at hdiv ⊢
      omega
    · next hrun =>
      simp only [if_neg hrun] at hdiv ⊢
      omega

theorem Rtc.normalise_latched (r : Rtc) (now : Nat) :
    (r.normalise now).latched = r.latched ∧ (r.normalise now).select = r.select := by
  unfold Rtc.normalise
  dsimp only
  split_ifs <;> exact ⟨rfl, rfl⟩

/-- A snapshot whose seconds, minutes and hours fit a byte and whose days fit nine bits. -/
def RtcLatch.InRange (l : RtcLatch) : Prop := l.s < 256 ∧ l.m < 256 ∧ l.h < 256 ∧ l.d < 512

theorem Rtc.latch_inRange (r : Rtc) (now : Nat) : (r.latch now).latched.InRange := by
  have hlt : (r.normalise now).elapsed now < 512 * 86400 := r.elapsed_normalise_lt now
  refine ⟨?_, ?_, ?_, ?_⟩ <;> simp only [Rtc.latch, secOf, minOf, hourOf, dayOf] <;> omega

theorem Rtc.setElapsed_select (r : Rtc) (now e : Nat) : (r.setElapsed now e).select = r.select := by
  unfold Rtc.setElapsed
  split <;> rfl

theorem Rtc.setHalt_select (r : Rtc) (now : Nat) (h : Bool) : (r.setHalt now h).select = r.select := by
  unfold Rtc.setHalt
  split_ifs <;> rfl

theorem Rtc.writeField_select (r : Rtc) (now : Nat) (f : RtcField) (v : Byte) :
    (r.writeField now f v).select = r.select := by
  obtain ⟨_, hselect⟩ := r.normalise_latched now
  cases f with
  | dayHigh => exact (Rtc.setHalt_select _ _ _).trans ((Rtc.setElapsed_select _ _ _).trans hselect)
  | _ => exact (Rtc.setElapsed_select _ _ _).trans hselect

theorem Rtc.writeField_inRange {r : Rtc} (h : r.latched.InRange) (now : Nat) (f : RtcField) (v : Byte) :
    (r.writeField now f v).latched.InRange := by
  obtain ⟨hlatched, _⟩ := r.normalise_latched now
  rw [← hlatched] at h
  obtain ⟨hs, hm, hh, hd⟩ := h
  have hv : v.toNat < 256 := v.isLt
  cases f with
  | seconds => exact ⟨hv, hm, hh, hd⟩
  | minutes => exact ⟨hs, hv, hh, hd⟩
  | hours => exact ⟨hs, hm, hv, hd⟩
  | dayLow =>
    refine ⟨hs, hm, hh, ?_⟩
    show (r.normalise now).latched.d / 256 * 256 + v.toNat < 512
    omega
  | dayHigh =>
    refine ⟨hs, hm, hh, ?_⟩
    show (r.normalise now).latched.d % 256 + 256 * carryIn (bit v 0) < 512
    have hbit : carryIn (bit v 0) ≤ 1 := by cases bit v 0 <;> decide
    omega

/-- A clock write keeps the cartridge's ranges. -/
theorem CartOk.writeField {c : Cart} (h : CartOk c) (now : Nat) (f : RtcField) (v : Byte) :
    CartOk { c with rtc := c.rtc.writeField now f v } := by
  obtain ⟨hrom, hram, hselect, hlatched⟩ := h
  exact ⟨hrom, hram, (c.rtc.writeField_select now f v).symm ▸ hselect, Rtc.writeField_inRange hlatched now f v⟩

theorem CartOk.mbc1Write {c : Cart} (h : CartOk c) (hk : c.kind = .mbc1) (addr : Nat) (v : Byte) :
    CartOk (mbc1Write c addr v) := by
  obtain ⟨hrom, hram, hclock⟩ := h
  unfold Machine.mbc1Write
  split_ifs
  · exact ⟨hrom, hram, hclock⟩
  · exact ⟨by rw [hk]; exact Nat.mod_lt _ (by decide), hram, hclock⟩
  · exact ⟨hrom, by rw [hk]; exact Nat.mod_lt _ (by decide), hclock⟩
  · exact ⟨hrom, hram, hclock⟩

theorem CartOk.mbc3Write {c : Cart} (h : CartOk c) (hk : c.kind = .mbc3) (now addr : Nat) (v : Byte) :
    CartOk (mbc3Write c now addr v) := by
  obtain ⟨hrom, hram, hselect, hlatched⟩ := h
  unfold Machine.mbc3Write
  split_ifs with _ _ _ hbank hrtc
  · exact ⟨hrom, hram, hselect, hlatched⟩
  · exact ⟨by rw [hk]; exact Nat.mod_lt _ (by decide), hram, hselect, hlatched⟩
  · exact ⟨hrom, by rw [hk]; exact Nat.lt_succ_of_le hbank, nofun, hlatched⟩
  · split
    · exact ⟨hrom, hram, fun _ => hrtc, hlatched⟩
    · exact ⟨hrom, hram, hselect, hlatched⟩
  · exact ⟨hrom, hram, hselect, hlatched⟩
  · obtain ⟨_, hnorm⟩ := c.rtc.normalise_latched now
    exact ⟨hrom, hram, fun hs => hselect (hnorm ▸ hs), c.rtc.latch_inRange now⟩
  · exact ⟨hrom, hram, hselect, hlatched⟩

theorem CartOk.mbc5Write {c : Cart} (h : CartOk c) (hk : c.kind = .mbc5) (addr : Nat) (v : Byte) :
    CartOk (mbc5Write c addr v) := by
  obtain ⟨hrom, hram, hclock⟩ := h
  rw [hk] at hrom
  have hrom' : c.romBank < 512 := hrom
  have hv := v.isLt
  have hlow : c.romBank / 256 * 256 + v.toNat < 512 := by omega
  have hhigh : c.romBank % 256 + 256 * (v.toNat % 2) < 512 := by omega
  have hlimit : ∀ {n}, n < 512 → n < romBankLimit c.kind := fun hn => by rw [hk]; exact hn
  unfold Machine.mbc5Write
  split_ifs
  · exact ⟨hlimit hrom', hram, hclock⟩
  · exact ⟨hlimit hlow, hram, hclock⟩
  · exact ⟨hlimit hhigh, hram, hclock⟩
  · exact ⟨hlimit hrom', by rw [hk]; exact Nat.mod_lt _ (by decide), hclock⟩
  · exact ⟨hlimit hrom', hram, hclock⟩

/-- A bank-select write keeps the cartridge's ranges. -/
theorem CartOk.bankWrite {c : Cart} (h : CartOk c) (now addr : Nat) (v : Byte) : CartOk (c.bankWrite now addr v) := by
  unfold Cart.bankWrite
  split
  · exact h
  · next hk => exact h.mbc1Write hk addr v
  · next hk => exact h.mbc3Write hk now addr v
  · next hk => exact h.mbc5Write hk addr v

end Sys2Proof.Machine
end

section
/-! PROOF. Every operation of the sound controller keeps its counters in range and an enabled channel's converter on
(spec/64_sound.md R471 to R521). -/

namespace Sys2Proof.Machine

/-! Envelopes. -/

/-- NRx2 with one of bits 7:3 set switches the converter on (R473, R504). -/
theorem Envelope.dac_write (e : Envelope) {v : Byte} (hv : v &&& 0xF8 ≠ 0) : (e.write v).dac = true := by
  have hbits : ∀ v : Byte, v &&& 0xF8 ≠ 0 → (v.extractLsb' 4 4 != 0 || bit v 3) = true := by decide
  exact hbits v hv

theorem Envelope.dac_clock (e : Envelope) : e.clock.dac = e.dac := by
  unfold Envelope.clock
  split_ifs <;> rfl

theorem Envelope.volume_clock {e : Envelope} (h : e.volume ≤ 15) : e.clock.volume ≤ 15 := by
  unfold Envelope.clock
  split_ifs with _ _ _ hlt
  · exact h
  · exact hlt
  · exact h
  · exact (Nat.sub_le _ _).trans h
  · exact h

theorem Envelope.volume_trigger (e : Envelope) : e.trigger.volume ≤ 15 := Nat.le_of_lt_succ e.initVolume.isLt

theorem lengthNext_le {max n : Nat} (h : n ≤ max) : lengthNext max n ≤ max := by
  unfold lengthNext
  split <;> omega

theorem lengthTriggered_le {max n : Nat} (h : n ≤ max) : lengthTriggered max n ≤ max := by
  unfold lengthTriggered
  split <;> omega

/-- A condition that clears `enabled` did not hold of a channel still enabled. -/
theorem enabled_of_ite {p : Prop} [Decidable p] {b : Bool} (h : (if p then false else b) = true) : ¬p ∧ b = true := by
  simpa using h

/-! The channels. -/

/-- A pulse channel in range, its converter on if it is enabled. -/
structure PulseOk (p : Pulse) : Prop where
  volume : p.env.volume ≤ 15
  position : p.dutyPos < 8
  length : p.length ≤ 64
  dac : p.enabled = true → p.env.dac = true

theorem PulseOk.clock {p : Pulse} (h : PulseOk p) : PulseOk p.clock := by
  unfold Pulse.clock
  split
  · exact { h with position := Nat.mod_lt _ (by decide) }
  · exact { h with }

theorem PulseOk.lengthClock {p : Pulse} (h : PulseOk p) : PulseOk p.lengthClock := by
  unfold Pulse.lengthClock
  split
  · exact { h with length := lengthNext_le h.length, dac := fun hen => h.dac (enabled_of_ite hen).2 }
  · exact h

theorem PulseOk.trigger {p : Pulse} (h : PulseOk p) : PulseOk p.trigger where
  volume := p.env.volume_trigger
  position := h.position
  length := lengthTriggered_le h.length
  dac := id

theorem PulseOk.writeLength {p : Pulse} (h : PulseOk p) (v : Byte) : PulseOk (p.writeLength v) :=
  { h with length := (Nat.mod_lt _ (by decide)).le }

theorem PulseOk.writeEnvelope {p : Pulse} (h : PulseOk p) (v : Byte) : PulseOk (p.writeEnvelope v) :=
  { h with dac := fun hen => p.env.dac_write (enabled_of_ite hen).1 }

theorem PulseOk.envelopeClock {p : Pulse} (h : PulseOk p) : PulseOk { p with env := p.env.clock } :=
  { h with volume := Envelope.volume_clock h.volume, dac := fun hen => p.env.dac_clock.trans (h.dac hen) }

theorem PulseOk.sweepPeriod {p : Pulse} (h : PulseOk p) (w : Sweep) : PulseOk (sweepPeriod w p) := by
  unfold Machine.sweepPeriod
  dsimp only
  split_ifs
  · exact { h with }
  · exact { h with dac := nofun }
  · exact { h with }

/-- Channel 3 in range, its converter on if it is enabled. -/
structure WaveOk (w : Wave) : Prop where
  position : w.wavePos < 32
  length : w.length ≤ 256
  dac : w.enabled = true → w.dacOn = true

theorem WaveOk.clock {w : Wave} (h : WaveOk w) : WaveOk w.clock := by
  unfold Wave.clock
  split
  · exact { h with position := Nat.mod_lt _ (by decide) }
  · exact { h with }

theorem WaveOk.lengthClock {w : Wave} (h : WaveOk w) : WaveOk w.lengthClock := by
  unfold Wave.lengthClock
  split
  · exact { h with length := lengthNext_le h.length, dac := fun hen => h.dac (enabled_of_ite hen).2 }
  · exact h

theorem WaveOk.trigger {w : Wave} (h : WaveOk w) : WaveOk w.trigger where
  position := Nat.zero_lt_succ _
  length := lengthTriggered_le h.length
  dac := id

theorem WaveOk.writeDac {w : Wave} (h : WaveOk w) (b : Bool) :
    WaveOk { w with dacOn := b, enabled := if b then w.enabled else false } := by
  refine { h with dac := fun hen => ?_ }
  cases b
  · cases hen
  · rfl

/-- Channel 4 in range, its converter on if it is enabled. -/
structure NoiseOk (n : Noise) : Prop where
  volume : n.env.volume ≤ 15
  length : n.length ≤ 64
  dac : n.enabled = true → n.env.dac = true

theorem NoiseOk.clock {n : Noise} (h : NoiseOk n) : NoiseOk n.clock := by
  unfold Noise.clock
  split <;> exact { h with }

theorem NoiseOk.lengthClock {n : Noise} (h : NoiseOk n) : NoiseOk n.lengthClock := by
  unfold Noise.lengthClock
  split
  · exact { h with length := lengthNext_le h.length, dac := fun hen => h.dac (enabled_of_ite hen).2 }
  · exact h

theorem NoiseOk.trigger {n : Noise} (h : NoiseOk n) : NoiseOk n.trigger where
  volume := n.env.volume_trigger
  length := lengthTriggered_le h.length
  dac := id

theorem NoiseOk.writeEnvelope {n : Noise} (h : NoiseOk n) (v : Byte) : NoiseOk (n.writeEnvelope v) :=
  { h with dac := fun hen => n.env.dac_write (enabled_of_ite hen).1 }

theorem NoiseOk.envelopeClock {n : Noise} (h : NoiseOk n) : NoiseOk { n with env := n.env.clock } :=
  { h with volume := Envelope.volume_clock h.volume, dac := fun hen => n.env.dac_clock.trans (h.dac hen) }

/-! The controller, channel by channel. -/

/-- `SoundOk` by channels. -/
structure ChannelsOk (s : Sound) : Prop where
  ch1 : PulseOk s.ch1
  ch2 : PulseOk s.ch2
  ch3 : WaveOk s.ch3
  ch4 : NoiseOk s.ch4
  seq : s.seqCounter < 8

theorem soundOk_iff_channelsOk {s : Sound} : SoundOk s ↔ ChannelsOk s where
  mp := fun ⟨hv1, hv2, hv4, hp1, hp2, hp3, hseq, hl1, hl2, hl3, hl4, hd1, hd2, hd3, hd4⟩ =>
    ⟨⟨hv1, hp1, hl1, hd1⟩, ⟨hv2, hp2, hl2, hd2⟩, ⟨hp3, hl3, hd3⟩, ⟨hv4, hl4, hd4⟩, hseq⟩
  mpr := fun ⟨⟨hv1, hp1, hl1, hd1⟩, ⟨hv2, hp2, hl2, hd2⟩, ⟨hp3, hl3, hd3⟩, ⟨hv4, hl4, hd4⟩, hseq⟩ =>
    ⟨hv1, hv2, hv4, hp1, hp2, hp3, hseq, hl1, hl2, hl3, hl4, hd1, hd2, hd3, hd4⟩

theorem ChannelsOk.ite {p : Prop} [Decidable p] {s t : Sound} (hs : ChannelsOk s) (ht : ChannelsOk t) :
    ChannelsOk (if p then s else t) := iteInduction (fun _ => hs) fun _ => ht

theorem channelsOk_reset : ChannelsOk Sound.reset := soundOk_iff_channelsOk.mp soundOk_reset

theorem ChannelsOk.lengthClock {s : Sound} (h : ChannelsOk s) : ChannelsOk s.lengthClock where
  ch1 := h.ch1.lengthClock
  ch2 := h.ch2.lengthClock
  ch3 := h.ch3.lengthClock
  ch4 := h.ch4.lengthClock
  seq := h.seq

theorem ChannelsOk.envelopeClock {s : Sound} (h : ChannelsOk s) : ChannelsOk s.envelopeClock where
  ch1 := h.ch1.envelopeClock
  ch2 := h.ch2.envelopeClock
  ch3 := h.ch3
  ch4 := h.ch4.envelopeClock
  seq := h.seq

theorem ChannelsOk.sweepClock {s : Sound} (h : ChannelsOk s) : ChannelsOk s.sweepClock := by
  unfold Sound.sweepClock
  split_ifs
  · exact h
  · exact { h with ch1 := h.ch1.sweepPeriod s.sweep }
  · exact { h with }

/-- A sequencer tick is the counter's step and then up to three clocks (R500). -/
theorem ChannelsOk.sequencerTick {s : Sound} (h : ChannelsOk s) : ChannelsOk s.sequencerTick := by
  have hcount : ChannelsOk { s with seqCounter := (s.seqCounter + 1) % 8 } :=
    { h with seq := Nat.mod_lt _ (by decide) }
  have hlength : ∀ {u}, ChannelsOk u → ∀ b : Bool, ChannelsOk (if b then u.lengthClock else u) :=
    fun hu b => hu.lengthClock.ite hu
  have hsweep : ∀ {u}, ChannelsOk u → ∀ b : Bool, ChannelsOk (if b then u.sweepClock else u) :=
    fun hu b => hu.sweepClock.ite hu
  have henvelope : ∀ {u}, ChannelsOk u → ∀ b : Bool, ChannelsOk (if b then u.envelopeClock else u) :=
    fun hu b => hu.envelopeClock.ite hu
  exact henvelope (hsweep (hlength hcount _) _) _

theorem ChannelsOk.sequence {s : Sound} (h : ChannelsOk s) (b : Bool) : ChannelsOk (s.sequence b) := by
  have hreset : ChannelsOk (if s.powerOffPending then s.powerOffReset else s) :=
    ChannelsOk.ite (s := s.powerOffReset) { channelsOk_reset with } h
  have htick : ∀ {u}, ChannelsOk u → ∀ c : Bool, ChannelsOk (if c then u.sequencerTick else u) :=
    fun hu c => hu.sequencerTick.ite hu
  exact { htick hreset _ with }

theorem ChannelsOk.clock1 {s : Sound} (h : ChannelsOk s) :
    ChannelsOk (if s.ch1.enabled then { s with ch1 := s.ch1.clock } else s) := .ite { h with ch1 := h.ch1.clock } h

theorem ChannelsOk.clock2 {s : Sound} (h : ChannelsOk s) :
    ChannelsOk (if s.ch2.enabled then { s with ch2 := s.ch2.clock } else s) := .ite { h with ch2 := h.ch2.clock } h

theorem ChannelsOk.clock3 {s : Sound} (h : ChannelsOk s) :
    ChannelsOk (if s.ch3.enabled then { s with ch3 := s.ch3.clock } else s) := .ite { h with ch3 := h.ch3.clock } h

theorem ChannelsOk.clock4 {s : Sound} (h : ChannelsOk s) :
    ChannelsOk (if s.ch4.enabled then { s with ch4 := s.ch4.clock } else s) := .ite { h with ch4 := h.ch4.clock } h

/-- Half a cycle clocks the dividers of the enabled channels (R494). -/
theorem ChannelsOk.half {s : Sound} (h : ChannelsOk s) (first : Bool) : ChannelsOk (s.half first) :=
  .ite (.ite h.clock3.clock1.clock2.clock4 h.clock3) h

theorem soundStep_channelsOk {s : State} (h : ChannelsOk s.sound) : ChannelsOk (soundStep s).sound :=
  ((h.sequence _).half true).half false

/-! The registers. -/

theorem ChannelsOk.writeOn {s : Sound} (h : ChannelsOk s) (r : SoundReg) (v : Byte) : ChannelsOk (s.writeOn r v) := by
  have h1 : PulseOk (s.ch1.writeControl v) := { h.ch1 with }
  have h2 : PulseOk (s.ch2.writeControl v) := { h.ch2 with }
  have h3 : WaveOk (s.ch3.writeControl v) := { h.ch3 with }
  have h4 : NoiseOk { s.ch4 with lengthEnable := bit v 6 } := { h.ch4 with }
  cases r with
  | nr11 => exact { h with ch1 := h.ch1.writeLength v }
  | nr12 => exact { h with ch1 := h.ch1.writeEnvelope v }
  | nr13 => exact { h with ch1 := { h.ch1 with } }
  | nr14 => exact .ite { h with ch1 := h1.trigger } { h with ch1 := h1 }
  | nr21 => exact { h with ch2 := h.ch2.writeLength v }
  | nr22 => exact { h with ch2 := h.ch2.writeEnvelope v }
  | nr23 => exact { h with ch2 := { h.ch2 with } }
  | nr24 => exact { h with ch2 := iteInduction (motive := PulseOk) (fun _ => h2.trigger) fun _ => h2 }
  | nr30 => exact { h with ch3 := h.ch3.writeDac _ }
  | nr31 => exact { h with ch3 := { h.ch3 with length := v.isLt.le } }
  | nr32 | nr33 => exact { h with ch3 := { h.ch3 with } }
  | nr34 => exact { h with ch3 := iteInduction (motive := WaveOk) (fun _ => h3.trigger) fun _ => h3 }
  | nr41 => exact { h with ch4 := { h.ch4 with length := (Nat.mod_lt _ (by decide)).le } }
  | nr42 => exact { h with ch4 := h.ch4.writeEnvelope v }
  | nr43 => exact { h with ch4 := { h.ch4 with } }
  | nr44 => exact { h with ch4 := iteInduction (motive := NoiseOk) (fun _ => h4.trigger) fun _ => h4 }
  | nr10 | nr50 | nr51 => exact { h with }

theorem ChannelsOk.writeReg {s : Sound} (h : ChannelsOk s) (r : SoundReg) (v : Byte) : ChannelsOk (s.writeReg r v) :=
  (h.writeOn r v).ite h

theorem ChannelsOk.writeNr52 {s : Sound} (h : ChannelsOk s) (v : Byte) : ChannelsOk (s.writeNr52 v) :=
  .ite { h with } (.ite { h with } h)

end Sys2Proof.Machine
end

section
/-! PROOF. Every operation of the video controller keeps its ranges, a pending white frame apart, which the frame
boundary takes away (spec/63_video.md R415 to R433). -/

namespace Sys2Proof.Machine

/-- A line, a mode and the cycles spent in it that go together (R425). -/
def ScanOk (m : VideoMode) (ly n : Nat) : Prop :=
  ly < Config.linesPerFrame ∧ (m = .vBlank ↔ Config.visibleLines ≤ ly) ∧ n < modeBudget m

theorem scanOk_visible {m : VideoMode} {ly : Nat} (hm : m ≠ .vBlank) (hly : ly < 144) : ScanOk m ly 0 := by
  refine ⟨hly.trans (by decide), iff_of_false hm (Nat.not_le.mpr hly), ?_⟩
  cases m <;> decide

theorem scanOk_vBlank {ly : Nat} (hvisible : 144 ≤ ly) (hly : ly < 154) : ScanOk .vBlank ly 0 :=
  ⟨hly, iff_of_true rfl hvisible, by decide⟩

/-- Outside VBlank the line is a visible one. -/
theorem ScanOk.visible {m : VideoMode} {ly n : Nat} (h : ScanOk m ly n) (hm : m ≠ .vBlank) : ly < 144 :=
  Nat.not_le.mp fun hle => hm (h.2.1.mpr hle)

theorem ScanOk.count {m : VideoMode} {ly n : Nat} (h : ScanOk m ly n) (hn : n + 1 ≠ modeBudget m) :
    ScanOk m ly (n + 1) :=
  ⟨h.1, h.2.1, Nat.lt_of_le_of_ne h.2.2 hn⟩

/-- What the invariant says of the controller inside a machine cycle: all but `frame_blank`. -/
structure VideoRuns (v : Video) : Prop where
  scan : ScanOk v.mode v.ly v.modeCycles
  bcps : bit v.bcps 6 = false
  ocps : bit v.ocps 6 = false
  off : OffOk v

theorem videoOk_iff_videoRuns {v : Video} : VideoOk v ↔ VideoRuns v ∧ v.frameBlank = false where
  mp := fun ⟨hly, hmode, hcycles, hbcps, hocps, hblank, hoff⟩ => ⟨⟨⟨hly, hmode, hcycles⟩, hbcps, hocps, hoff⟩, hblank⟩
  mpr := fun ⟨⟨⟨hly, hmode, hcycles⟩, hbcps, hocps, hoff⟩, hblank⟩ => ⟨hly, hmode, hcycles, hbcps, hocps, hblank, hoff⟩

/-- With the display on nothing is asked of the initial state. -/
theorem offOk_of_on {v : Video} (hon : v.on = true) : OffOk v := fun hoff => absurd (hon.symm.trans hoff) (by decide)

/-! The registers. -/

/-- Switching off puts the controller in its initial state, switching on leaves it there (R415, R432). -/
theorem VideoRuns.writeLcdc {v : Video} (h : VideoRuns v) (x : Byte) : VideoRuns (v.writeLcdc x) := by
  unfold Video.writeLcdc
  dsimp only
  split_ifs with hdown hup
  · exact { h with scan := scanOk_visible nofun (Nat.zero_lt_succ _), off := fun _ => ⟨rfl, rfl, rfl, rfl, rfl⟩ }
  · simp only [Bool.and_eq_true] at hup
    exact { h with off := offOk_of_on hup.2 }
  · refine { h with off := fun hx => h.off ?_ }
    have hx' : bit x 7 = false := hx
    simpa [hx'] using hdown

/-- Writing an index masks bit 6 away (R122). -/
theorem bit6_paletteIndex (v : Byte) : bit (v &&& 0xBF) 6 = false := by
  revert v
  decide

/-- Stepping an index keeps bit 6 (R123). -/
theorem bit6_paletteIndexNext {p : Byte} (h : bit p 6 = false) : bit (paletteIndexNext p) 6 = false := by
  revert p
  decide

/-! The frame buffer. -/

/-- 144 lines, each unwritten or 160 pixels (R47). -/
def RowsOk (fb : List (Option (List Pixel))) : Prop :=
  fb.length = 144 ∧ ∀ row ∈ fb, (row.map List.length).getD 160 = 160

/-- Storing a row of 160 pixels keeps the frame buffer's form. -/
theorem RowsOk.set {fb : List (Option (List Pixel))} (h : RowsOk fb) (line : Nat) {row : List Pixel}
    (hrow : row.length = 160) : RowsOk (fb.set line (some row)) := by
  obtain ⟨hlength, hrows⟩ := h
  refine ⟨List.length_set.trans hlength, fun r hr => ?_⟩
  obtain hr | rfl := List.mem_or_eq_of_mem_set hr
  · exact hrows r hr
  · exact hrow

/-- The white frame is 144 rows of 160 pixels (R433). -/
theorem rowsOk_white : RowsOk (List.replicate Config.visibleLines (some whiteLine)) := by
  refine ⟨List.length_replicate, fun row hrow => ?_⟩
  rw [List.eq_of_mem_replicate hrow]
  exact List.length_replicate

/-! The step. -/

/-- One more cycle, or the next mode with a fresh budget: the position stays a position of the scan, and a line that is
rendered is 160 pixels (R425, R434). -/
theorem modeAdvance_scan {s : State} (hscan : ScanOk s.video.mode s.video.ly s.video.modeCycles)
    (hrows : RowsOk s.frameBuffer) :
    ∃ m ly n w q fb, ScanOk m ly n ∧ RowsOk fb ∧
      modeAdvance s =
        { s with
          video := { s.video with mode := m, ly := ly, modeCycles := n, windowLine := w }, irq := q
          frameBuffer := fb } := by
  unfold modeAdvance
  dsimp only
  split
  · next hm =>
    rw [hm] at hscan
    split_ifs with hlast
    · exact ⟨_, _, _, _, _, _, scanOk_visible (by decide) (hscan.visible nofun), hrows, rfl⟩
    · exact ⟨_, _, _, _, _, _, hscan.count hlast, hrows, by rw [hm]⟩
  · next hm =>
    rw [hm] at hscan
    split_ifs with hlast
    · refine ⟨_, _, _, _, _, _, scanOk_visible (by decide) (hscan.visible nofun), hrows.set s.video.ly ?_, rfl⟩
      exact (List.length_map _).trans List.length_range
    · exact ⟨_, _, _, _, _, _, hscan.count hlast, hrows, by rw [hm]⟩
  · next hm =>
    rw [hm] at hscan
    have hly := hscan.visible nofun
    split_ifs with hlast
    · unfold afterHBlank
      dsimp only
      split_ifs with hline
      · exact ⟨_, _, _, _, _, _, scanOk_vBlank hline.ge (hline.trans_lt (by decide)), hrows, rfl⟩
      · exact ⟨_, _, _, _, _, _, scanOk_visible (by decide) (Nat.lt_of_le_of_ne hly hline), hrows, rfl⟩
    · exact ⟨_, _, _, _, _, _, hscan.count hlast, hrows, by rw [hm]⟩
  · next hm =>
    rw [hm] at hscan
    obtain ⟨hly, hvisible, _⟩ := hscan
    split_ifs with hlast
    · unfold afterVBlankLine
      dsimp only
      split_ifs with hline
      · exact ⟨_, _, _, _, _, _, scanOk_visible (by decide) (Nat.zero_lt_succ _), hrows, rfl⟩
      · exact ⟨_, _, _, _, _, _, scanOk_vBlank ((hvisible.mp rfl).trans (Nat.le_succ _))
          (Nat.lt_of_le_of_ne hly hline), hrows, by rw [hm]⟩
    · exact ⟨_, _, _, _, _, _, ScanOk.count ⟨hly, hvisible, ‹_›⟩ hlast, hrows, by rw [hm]⟩

/-- The video step keeps the controller's ranges and the frame buffer's form, and touches the interrupt flags besides. -/
theorem videoStep_runs {s : State} (hv : VideoRuns s.video) (hrows : RowsOk s.frameBuffer) :
    ∃ v q fb, VideoRuns v ∧ RowsOk fb ∧ videoStep s = { s with video := v, irq := q, frameBuffer := fb } := by
  unfold videoStep
  split
  · next hon =>
    obtain ⟨m, ly, n, w, q, fb, hscan, hfb, hadvance⟩ := modeAdvance_scan hv.scan hrows
    rw [hadvance]
    unfold statUpdate
    dsimp only
    have hruns : ∀ line, VideoRuns { s.video with
        mode := m, ly := ly, modeCycles := n, windowLine := w, statLinePrev := line } :=
      fun _ => ⟨hscan, hv.bcps, hv.ocps, offOk_of_on hon⟩
    split_ifs <;> exact ⟨_, _, _, hruns _, hfb, rfl⟩
  · exact ⟨_, _, _, hv, hrows, rfl⟩

end Sys2Proof.Machine
end

section
/-! PROOF. The DMA controller and the timer (spec/62_dma.md R396 to R403; spec/61_timer.md R382, R386). -/

namespace Sys2Proof.Machine

theorem DmaOk.startObjectMemory (d : Dma) (v : Byte) : DmaOk (d.startObjectMemory v) := by
  intro t ht
  obtain rfl := Option.mem_some.mp ht
  exact ⟨Nat.zero_lt_succ _, fun _ => rfl, nofun⟩

/-- HDMA5 starts a transfer of 16 to 2048 bytes (R401). -/
theorem DmaOk.startGeneral (d : Dma) (v : Byte) : DmaOk (d.startGeneral v) := by
  intro t ht
  obtain rfl := Option.mem_some.mp ht
  refine ⟨?_, nofun, fun _ => ⟨?_, ?_, rfl⟩⟩ <;> dsimp only <;> omega

/-- One more byte of an object-memory transfer. -/
theorem TransferOk.advance_one {t : Transfer} (h : TransferOk t) (hk : t.kind = .objectMemory) :
    ∀ u ∈ t.advance 1, TransferOk u := by
  obtain ⟨hdone, hobject, _⟩ := h
  intro u hu
  unfold Transfer.advance at hu
  split at hu
  · cases hu
  · next hlast =>
    obtain rfl := Option.mem_some.mp hu
    exact ⟨Nat.lt_of_le_of_ne hdone hlast, hobject, fun hg => absurd (hk.symm.trans hg) nofun⟩

/-- Two more bytes of a general transfer, which has an even number left. -/
theorem TransferOk.advance_two {t : Transfer} (h : TransferOk t) (hk : t.kind = .general) :
    ∀ u ∈ t.advance 2, TransferOk u := by
  obtain ⟨hdone, _, hgeneral⟩ := h
  obtain ⟨hmax, hlength, heven⟩ := hgeneral hk
  intro u hu
  unfold Transfer.advance at hu
  split at hu
  · cases hu
  · next hlast =>
    obtain rfl := Option.mem_some.mp hu
    refine ⟨?_, fun ho => absurd (hk.symm.trans ho) nofun, fun _ => ⟨hmax, hlength, ?_⟩⟩ <;> dsimp only <;> omega

/-- The divider goes up by four, its low bits stay zero (R386). -/
theorem timerOk_add_four {d : BitVec 16} (h : d.toNat % 4 = 0) : (d + 4).toNat % 4 = 0 := by
  rw [BitVec.toNat_add, show (4 : BitVec 16).toNat = 4 from rfl]
  omega

theorem timerStep_ok {s : State} (h : TimerOk s.timer) :
    ∃ tm q, TimerOk tm ∧ timerStep s = { s with timer := tm, irq := q } := by
  have h4 := timerOk_add_four h
  unfold timerStep timaTick
  dsimp only
  split_ifs <;> exact ⟨_, _, h4, rfl⟩

end Sys2Proof.Machine
end

section
/-! PROOF. The invariant of the whole CORE: what it says of everything but the CPU is kept by every write through the bus
and every agent, and a step puts the two halves together (spec/70_reset_and_hazards.md R586, R588). -/

namespace Sys2Proof.Machine

theorem ArrayOk.write {n : Nat} {m : Memory} (h : ArrayOk n m) {i : Nat} (hi : i < n) (v : Byte) :
    ArrayOk n (m.write i v) := ⟨Memory.wf_write h.1 i v, Memory.below_write h.2 hi v⟩

/-- The invariant without the CPU's part and the frame's counters: what holds between the agents of a machine cycle. -/
structure DevicesOk (s : State) : Prop where
  vram : ArrayOk 16384 s.vram
  wram : ArrayOk 32768 s.wram
  oam : ArrayOk 160 s.oam
  hram : ArrayOk 127 s.hram
  bgPalette : ArrayOk 64 s.bgPalette
  objPalette : ArrayOk 64 s.objPalette
  waveRam : ArrayOk 16 s.waveRam
  cartRam : ArrayOk s.cart.ramSize s.cart.ram
  video : VideoRuns s.video
  rows : RowsOk s.frameBuffer
  sound : ChannelsOk s.sound
  cart : CartOk s.cart
  dma : DmaOk s.dma
  timer : TimerOk s.timer

/-- The invariant is the CPU's part, the devices' part, no white frame pending and a frame below its length. -/
theorem inv_iff {s : State} :
    Inv s ↔ CpuOk s ∧ DevicesOk s ∧ s.video.frameBlank = false ∧ s.frameCycle < Config.cyclesPerFrame where
  mp := by
    rintro ⟨⟨hvram, hwram, hoam, hhram, hbg, hobj, hwave, hram⟩, hcpu, hvideo, ⟨hlength, hrows, hcycle⟩, hsound, hcart,
      hdma, htimer⟩
    obtain ⟨hruns, hblank⟩ := videoOk_iff_videoRuns.mp hvideo
    exact ⟨hcpu, ⟨hvram, hwram, hoam, hhram, hbg, hobj, hwave, hram, hruns, ⟨hlength, hrows⟩,
      soundOk_iff_channelsOk.mp hsound, hcart, hdma, htimer⟩, hblank, hcycle⟩
  mpr := by
    rintro ⟨hcpu, h, hblank, hcycle⟩
    exact ⟨⟨h.vram, h.wram, h.oam, h.hram, h.bgPalette, h.objPalette, h.waveRam, h.cartRam⟩, hcpu,
      videoOk_iff_videoRuns.mpr ⟨h.video, hblank⟩, ⟨h.rows.1, h.rows.2, hcycle⟩, soundOk_iff_channelsOk.mpr h.sound,
      h.cart, h.dma, h.timer⟩

/-! Writes through the bus. -/

theorem DevicesOk.bankWrite {s : State} (h : DevicesOk s) (now addr : Nat) (v : Byte) :
    DevicesOk { s with cart := s.cart.bankWrite now addr v } := by
  obtain ⟨_, hram, _, _, hsize⟩ := s.cart.bankWrite_keeps now addr v
  exact { h with cart := h.cart.bankWrite now addr v, cartRam := by rw [hram, hsize]; exact h.cartRam }

theorem DevicesOk.ioWrite {s : State} (h : DevicesOk s) (r : IoReg) (v : Byte) : DevicesOk (ioWrite s r v) := by
  cases r with
  | div => exact { h with timer := rfl }
  | tima | tma | tac => exact { h with timer := h.timer }
  | sound r => exact { h with sound := h.sound.writeReg r v }
  | nr52 => exact { h with sound := h.sound.writeNr52 v }
  | lcdc => exact { h with video := h.video.writeLcdc v }
  | stat | scy | scx | lyc | bgp | obp0 | obp1 | wy | wx | vbk => exact { h with video := { h.video with } }
  | dma => exact { h with dma := .startObjectMemory _ v }
  | hdma1 | hdma2 | hdma3 | hdma4 => exact { h with dma := h.dma }
  | hdma5 => exact { h with dma := .startGeneral _ v }
  | key0 =>
    unfold Machine.ioWrite
    dsimp only
    split
    · exact { h with }
    · exact h
  | bcps => exact { h with video := { h.video with bcps := bit6_paletteIndex v } }
  | ocps => exact { h with video := { h.video with ocps := bit6_paletteIndex v } }
  | bcpd =>
    exact { h with
      bgPalette := h.bgPalette.write (Nat.mod_lt _ (by decide)) v
      video := { h.video with bcps := bit6_paletteIndexNext h.video.bcps } }
  | ocpd =>
    exact { h with
      objPalette := h.objPalette.write (Nat.mod_lt _ (by decide)) v
      video := { h.video with ocps := bit6_paletteIndexNext h.video.ocps } }
  | p1 | sb | sc | iflag | ly | key1 | bank | svbk | ie => exact { h with }

theorem DevicesOk.memWrite {s : State} (h : DevicesOk s) (a : Word) (v : Byte) : DevicesOk (memWrite s a v) := by
  have hsize := locate_inSize s a
  unfold Machine.memWrite
  cases hl : locate s a <;> rw [hl] at hsize
  case bootRom | rom => exact h.bankWrite _ _ v
  case vram i => exact { h with vram := h.vram.write hsize v }
  case cartRam i => exact { h with cart := h.cart, cartRam := h.cartRam.write hsize v }
  case clock f => exact { h with cart := h.cart.writeField _ f v, cartRam := h.cartRam }
  case wram i => exact { h with wram := h.wram.write hsize v }
  case oam i => exact { h with oam := h.oam.write hsize v }
  case waveRam i => exact { h with waveRam := h.waveRam.write hsize v }
  case hram i => exact { h with hram := h.hram.write hsize v }
  case reg r => exact h.ioWrite r v
  case openWindow | gap | noReg => exact h

theorem ViaBus.devicesOk {s t : State} (h : ViaBus s t) (hs : DevicesOk s) : DevicesOk t := by
  induction h with
  | refl => exact hs
  | cpu c _ ih => exact { ih with }
  | irq q _ ih => exact { ih with }
  | write a v _ ih => exact ih.memWrite a v

/-! The other agents. -/

theorem videoStep_devicesOk {s : State} (h : DevicesOk s) : DevicesOk (videoStep s) := by
  obtain ⟨v, q, fb, hv, hfb, heq⟩ := videoStep_runs h.video h.rows
  rw [heq]
  exact { h with video := hv, rows := hfb }

theorem soundStep_devicesOk {s : State} (h : DevicesOk s) : DevicesOk (soundStep s) :=
  { h with sound := soundStep_channelsOk h.sound }

/-- The destination of a general transfer wraps inside a bank (R402). -/
theorem generalByte_devicesOk {s : State} (h : DevicesOk s) (t : Transfer) : DevicesOk (generalByte s t) := by
  have hbank := vramBank_le s
  have hoff := Nat.mod_lt (t.dst.toNat + t.done) (show 0 < 8192 by decide)
  exact { h with vram := h.vram.write (by omega) _ }

theorem dmaStep_devicesOk {s : State} (h : DevicesOk s) : DevicesOk (dmaStep s) := by
  unfold dmaStep
  split
  · exact h
  · next t ht =>
    have hok : TransferOk t := h.dma t ht
    split
    · next hk =>
      have hnext := hok.advance_one hk
      obtain ⟨hdone, hlength, _⟩ := hok
      have hdone' : t.done < 160 := hlength hk ▸ hdone
      exact { h with oam := h.oam.write hdone' _, dma := hnext }
    · next hk =>
      have hbytes := generalByte_devicesOk (generalByte_devicesOk h t) { t with done := t.done + 1 }
      exact { hbytes with dma := hok.advance_two hk }

theorem timerStep_devicesOk {s : State} (h : DevicesOk s) : DevicesOk (timerStep s) := by
  obtain ⟨tm, q, htm, heq⟩ := timerStep_ok h.timer
  rw [heq]
  exact { h with timer := htm }

theorem peripherals_devicesOk {s : State} (h : DevicesOk s) : DevicesOk (peripherals s) :=
  { timerStep_devicesOk (dmaStep_devicesOk (soundStep_devicesOk (videoStep_devicesOk h))) with }

/-- The agents after the CPU leave it and the parameters alone. -/
theorem peripherals_frame (s : State) :
    (peripherals s).cpu = s.cpu ∧ (peripherals s).params = s.params := by
  obtain ⟨_, _, _, hv⟩ := videoStep_frame s
  obtain ⟨_, _, _, hd⟩ := dmaStep_frame (soundStep (videoStep s))
  obtain ⟨_, _, ht⟩ := timerStep_frame (dmaStep (soundStep (videoStep s)))
  rw [peripherals_eq, ht, hd, hv]
  exact ⟨rfl, rfl⟩

theorem applyInput_inv {s : State} (h : Inv s) : Inv (applyInput s) := by
  obtain ⟨_, _, _, _, heq⟩ := applyInput_frame s
  rw [heq]
  exact h

theorem applyInput_cpu (s : State) : (applyInput s).cpu = s.cpu := by
  obtain ⟨_, _, _, _, heq⟩ := applyInput_frame s
  rw [heq]

/-! The step. -/

/-- From a state of the invariant a machine cycle ends fatal with the invariant kept, or live with the CPU and the
devices in range. -/
theorem machineCycle_inv {s t : State} (hs : Inv s) (hlive : s.cpu.fatal = none) (h : machineCycle s = .next t) :
    (t.cpu.fatal.isSome = true ∧ Inv t) ∨ (t.cpu.fatal = none ∧ CpuOk t ∧ DevicesOk t) := by
  obtain ⟨hcpu, hdevices, hblank, hcycle⟩ := inv_iff.mp hs
  obtain ⟨u, hu, hcases⟩ := machineCycle_cases h
  obtain ⟨u', hu', hvia⟩ := cpuStep_viaBus s
  obtain rfl : u' = u := by simpa [hu'] using hu
  have hshare := cpuStep_cpuShareOk hcpu hlive hu
  obtain ⟨hfatal, rfl⟩ | ⟨hfatal, rfl⟩ := hcases
  · obtain ⟨c, rfl⟩ := hshare.fatal hfatal
    exact .inl ⟨hfatal, inv_iff.mpr ⟨hshare.cpu, { hdevices with }, hblank, hcycle⟩⟩
  · obtain ⟨hpcpu, hpparams⟩ := peripherals_frame u'
    refine .inr ⟨hpcpu ▸ hfatal, ?_, peripherals_devicesOk (hvia.devicesOk hdevices)⟩
    rw [CpuOk, hpcpu, hpparams]
    exact hshare.cpu

/-- The frame's books take a pending white frame and a full frame away (R588). -/
theorem frameBoundary_inv {s : State} (hlive : s.cpu.fatal = none) (hcpu : CpuOk s) (h : DevicesOk s) :
    Inv (frameBoundary s) := by
  have hpos : 0 < Config.cyclesPerFrame := by decide
  unfold frameBoundary
  rw [hlive, if_neg (by decide)]
  split_ifs with hblank hfull
  · exact inv_iff.mpr ⟨hcpu, { h with video := { h.video with }, rows := rowsOk_white }, rfl, hpos⟩
  · exact inv_iff.mpr ⟨hcpu, { h with }, Bool.eq_false_iff.mpr hblank, hpos⟩
  · exact inv_iff.mpr ⟨hcpu, h, Bool.eq_false_iff.mpr hblank, Nat.not_le.mp hfull⟩

theorem frameBoundary_fatal {s : State} (h : s.cpu.fatal.isSome = true) : frameBoundary s = s := by
  simp [frameBoundary, h]

/-- Settles O60: input, machine cycle and frame boundary in turn; a fatal cycle changed the CPU alone. -/
theorem everyStepKeepsTheInvariant : Obligations.EveryStepKeepsTheInvariant := by
  intro s t hs h
  obtain ⟨hlive, u, hu, rfl⟩ := step_cases h
  have hlive' : (applyInput s).cpu.fatal = none := applyInput_cpu s ▸ hlive
  obtain ⟨hfatal, hinv⟩ | ⟨hnone, hcpu, hdevices⟩ := machineCycle_inv (applyInput_inv hs) hlive' hu
  · rwa [frameBoundary_fatal hfatal]
  · exact frameBoundary_inv hnone hcpu hdevices

end Sys2Proof.Machine
end

section
/-! PROOF. A write to a storage byte: which reads see it, what it leaves as it was, and the work RAM mirror
(spec/20_memory.md R63, R68, R69, R79; spec/10_state.md R36). -/

namespace Sys2Proof.Machine

/-! What a storage location reads as after a write to another. -/

/-- Only the location written reads differently: locations in different arrays share no data, and inside one array
the offset decides (R36). -/
theorem Location.read_write_storage {s : State} (h : ArraysOk s) {l : Location} (hl : isStorage l = true) (a : Word)
    (v : Byte) (k : Location) : k.read (l.write s a v) = if k = l then v else k.read s := by
  obtain ⟨⟨hvram, _⟩, ⟨hwram, _⟩, ⟨hoam, _⟩, ⟨hhram, _⟩, _, _, ⟨hwave, _⟩, ⟨hcart, _⟩⟩ := h
  cases l with
  | vram i =>
    cases k with
    | vram j => simp [Location.read, Location.write, Memory.read_write_of_wf hvram]
    | _ => rfl
  | cartRam i =>
    cases k with
    | cartRam j => simp [Location.read, Location.write, Memory.read_write_of_wf hcart]
    | _ => rfl
  | wram i =>
    cases k with
    | wram j => simp [Location.read, Location.write, Memory.read_write_of_wf hwram]
    | _ => rfl
  | oam i =>
    cases k with
    | oam j => simp [Location.read, Location.write, Memory.read_write_of_wf hoam]
    | _ => rfl
  | waveRam i =>
    cases k with
    | waveRam j => simp [Location.read, Location.write, Memory.read_write_of_wf hwave]
    | _ => rfl
  | hram i =>
    cases k with
    | hram j => simp [Location.read, Location.write, Memory.read_write_of_wf hhram]
    | _ => rfl
  | bootRom | rom | clock | openWindow | gap | reg | noReg => cases hl

section
variable {s : State} {a : Word} (ha : isStorage (locate s a) = true) (v : Byte)
include ha

/-- Storing a byte moves no address: the map reads no array (R61). -/
theorem locate_memWrite_storage (b : Word) : locate (memWrite s a v) b = locate s b := by
  unfold memWrite
  cases hl : locate s a with
  | vram | cartRam | wram | oam | waveRam | hram => rfl
  | bootRom | rom | clock | openWindow | gap | reg | noReg =>
    rw [hl] at ha
    cases ha

theorem memRead_memWrite_storage (h : ArraysOk s) (b : Word) :
    memRead (memWrite s a v) b = if locate s b = locate s a then v else memRead s b := by
  calc memRead (memWrite s a v) b
      = (locate s b).read (memWrite s a v) := by rw [memRead, locate_memWrite_storage ha v b]
    _ = if locate s b = locate s a then v else memRead s b := Location.read_write_storage h ha a v (locate s b)

/-- Storing a byte keeps every array in its form, since the address map stays inside the arrays. -/
theorem arraysOk_memWrite_storage (h : ArraysOk s) : ArraysOk (memWrite s a v) := by
  obtain ⟨hvram, hwram, hoam, hhram, hbg, hobj, hwave, hcart⟩ := h
  have hsize := locate_inSize s a
  unfold memWrite
  cases hl : locate s a <;> rw [hl] at hsize ha
  case vram i => exact ⟨hvram.write hsize v, hwram, hoam, hhram, hbg, hobj, hwave, hcart⟩
  case cartRam i => exact ⟨hvram, hwram, hoam, hhram, hbg, hobj, hwave, hcart.write hsize v⟩
  case wram i => exact ⟨hvram, hwram.write hsize v, hoam, hhram, hbg, hobj, hwave, hcart⟩
  case oam i => exact ⟨hvram, hwram, hoam.write hsize v, hhram, hbg, hobj, hwave, hcart⟩
  case waveRam i => exact ⟨hvram, hwram, hoam, hhram, hbg, hobj, hwave.write hsize v, hcart⟩
  case hram i => exact ⟨hvram, hwram, hoam, hhram.write hsize v, hbg, hobj, hwave, hcart⟩
  all_goals cases ha

end

/-- Settles O35: the address map is as before the write, and only the location written reads differently. -/
theorem storageWriteReadsBack : Obligations.StorageWriteReadsBack :=
  fun _ _ v h ha b => memRead_memWrite_storage ha v h b

/-! The mirror. -/

/-- The effective bank is never 0: a zero selects bank 1 (R69). -/
theorem one_le_wramBank (s : State) : 1 ≤ wramBank s := by
  unfold wramBank
  split_ifs with _ hzero
  · exact Nat.le_refl 1
  · exact Nat.pos_of_ne_zero fun h => hzero (BitVec.eq_of_toNat_eq h)
  · exact Nat.le_refl 1

/-- Both windows of the work RAM, by the address: bank 0 in the lower half, the effective bank in the upper (R68). -/
theorem locate_workRam (s : State) {a : Word} (hlo : 0xC000 ≤ a.toNat) (hhi : a.toNat < 0xFE00) :
    locate s a = .wram (if a.toNat / 4096 % 2 = 0 then a.toNat % 4096 else wramBank s * 4096 + a.toNat % 4096) := by
  unfold locate
  dsimp only
  rw [if_neg (by omega), if_neg (by omega), if_neg (by omega), if_pos hhi]
  split_ifs <;> exact congrArg Location.wram (by omega)

/-- Settles O36: 0x2000 higher the address has the same half and the same offset in it. -/
theorem workRamMirror : Obligations.WorkRamMirror := by
  intro s a hlo hhi
  have hmirror : (a + 0x2000).toNat = a.toNat + 0x2000 := by bv_omega
  have hhalf : (a.toNat + 0x2000) / 4096 % 2 = a.toNat / 4096 % 2 := by omega
  have hoff : (a.toNat + 0x2000) % 4096 = a.toNat % 4096 := by omega
  have hlower : a.toNat / 4096 % 2 = 0 ↔ a.toNat < 0xD000 := by omega
  refine ⟨?_, ?_, one_le_wramBank s, wramBank_le s⟩
  · rw [locate_workRam s (by omega) (by omega), locate_workRam s hlo (by omega), hmirror, hhalf, hoff]
  · simp only [locate_workRam s hlo (by omega), hlower]

end Sys2Proof.Machine
end

section
/-! PROOF. The memory frame of an instruction: it stores at the addresses `storeAddresses` names and nowhere else
(spec/20_memory.md R77, R79). -/

namespace Sys2Proof.Machine

/-- `t` comes from `s` by storing to bytes that the addresses `l` name, all of them storage: the address map is the
same, the arrays are in form, and every other byte reads as before. -/
structure StoresOnly (s : State) (l : List Word) (t : State) : Prop where
  storage : ∀ a ∈ l, isStorage (locate s a) = true
  arrays : ArraysOk t
  map : ∀ b, locate t b = locate s b
  reads : ∀ b, (∀ a ∈ l, locate s b ≠ locate s a) → memRead t b = memRead s b

/-- The outcome `o` is a next state that comes from `s` in that way. -/
def NextStoresOnly (s : State) (l : List Word) (o : Out) : Prop := ∃ t, o = .next t ∧ StoresOnly s l t

/-! The state's operations. -/

theorem StoresOnly.refl {s : State} {l : List Word} (h : ArraysOk s) (hl : ∀ a ∈ l, isStorage (locate s a) = true) :
    StoresOnly s l s := ⟨hl, h, fun _ => rfl, fun _ _ => rfl⟩

section
variable {s t : State} {l : List Word} (h : StoresOnly s l t)
include h

/-- A change of the CPU that keeps the two bits KEY1 shows (R118). -/
theorem StoresOnly.cpu (c : Cpu) (hspeed : c.doubleSpeed = t.cpu.doubleSpeed)
    (harmed : c.speedArmed = t.cpu.speedArmed) : StoresOnly s l { t with cpu := c } where
  storage := h.storage
  arrays := h.arrays
  map := h.map
  reads b hb := (memRead_cpu t c hspeed harmed b).trans (h.reads b hb)

theorem StoresOnly.write {a : Word} (ha : a ∈ l) (v : Byte) : StoresOnly s l (memWrite t a v) := by
  have hstorage : isStorage (locate t a) = true := by rw [h.map]; exact h.storage a ha
  refine ⟨h.storage, arraysOk_memWrite_storage hstorage v h.arrays,
    fun b => (locate_memWrite_storage hstorage v b).trans (h.map b), fun b hb => ?_⟩
  have hother : locate t b ≠ locate t a := by rw [h.map, h.map]; exact hb a ha
  rw [memRead_memWrite_storage hstorage v h.arrays, if_neg hother, h.reads b hb]

theorem StoresOnly.setReg (r : Reg8) (v : Byte) : StoresOnly s l (t.setReg r v) := by
  cases r <;> exact h.cpu _ rfl rfl

theorem StoresOnly.setFlags (f : Flags) : StoresOnly s l (t.setFlags f) := h.cpu _ rfl rfl

theorem StoresOnly.setPc (a : Word) : StoresOnly s l (t.setPc a) := h.cpu _ rfl rfl

theorem StoresOnly.setSp (a : Word) : StoresOnly s l (t.setSp a) := h.cpu _ rfl rfl

theorem StoresOnly.setPair (p : Pair) (v : Word) : StoresOnly s l (t.setPair p v) := by
  cases p <;> exact h.cpu _ rfl rfl

theorem StoresOnly.push16 (hhi : t.cpu.sp - 1 ∈ l) (hlo : t.cpu.sp - 2 ∈ l) (v : Word) :
    StoresOnly s l (push16 t v) := by
  have hsp : t.cpu.sp - 1 - 1 = t.cpu.sp - 2 := by bv_omega
  rw [push16_spec, hsp]
  exact (((h.setSp _).write hhi _).setSp _).write hlo _

theorem StoresOnly.finish (n : Nat) : NextStoresOnly s l (finish n t) := ⟨_, rfl, h.cpu _ rfl rfl⟩

end

/-! The meanings that store or choose. -/

section
variable {s : State} {l : List Word} (h : StoresOnly s l s)
include h

/-- A meaning that changes the CPU alone, and not the two bits KEY1 shows, and ends. -/
theorem nextStoresOnly_cpu (c : Cpu) (n : Nat) (hspeed : c.doubleSpeed = s.cpu.doubleSpeed)
    (harmed : c.speedArmed = s.cpu.speedArmed) : NextStoresOnly s l (finish n { s with cpu := c }) :=
  (h.cpu c hspeed harmed).finish n

theorem storeAt_storesOnly {a : Word} (ha : a ∈ l) (v : Byte) (n : Nat) : NextStoresOnly s l (storeAt a v n s) :=
  (h.write ha v).finish n

theorem storeThenHL_storesOnly (hhl : s.hl ∈ l) (d : Word) : NextStoresOnly s l (storeThenHL d s) :=
  ((h.write hhl _).setPair _ _).finish 2

theorem storeSp_storesOnly {a : Word} (hlo : a ∈ l) (hhi : a + 1 ∈ l) : NextStoresOnly s l (storeSp a s) :=
  ((h.write hlo _).write hhi _).finish 5

theorem stepAtHL_storesOnly (hhl : s.hl ∈ l) (f : Byte → Flags → Byte × Flags) :
    NextStoresOnly s l (stepAtHL f s) := ((h.write hhl _).setFlags _).finish 3

theorem rotAt_storesOnly (hhl : s.hl ∈ l) (op : RotOp) : NextStoresOnly s l (rotAt op s) :=
  ((h.write hhl _).setFlags _).finish 4

theorem resetBitAtHL_storesOnly (hhl : s.hl ∈ l) (b : Nat) : NextStoresOnly s l (resetBitAtHL b s) :=
  (h.write hhl _).finish 4

theorem setBitAtHL_storesOnly (hhl : s.hl ∈ l) (b : Nat) : NextStoresOnly s l (setBitAtHL b s) :=
  (h.write hhl _).finish 4

theorem pushOf_storesOnly (hhi : s.cpu.sp - 1 ∈ l) (hlo : s.cpu.sp - 2 ∈ l) (p : StackPair) :
    NextStoresOnly s l (pushOf p s) := (h.push16 hhi hlo _).finish 4

theorem callTo_storesOnly (hhi : s.cpu.sp - 1 ∈ l) (hlo : s.cpu.sp - 2 ∈ l) (a : Word) (n : Nat) :
    NextStoresOnly s l (finish n (callTo a s)) := ((h.push16 hhi hlo _).setPc a).finish n

theorem jumpIf_storesOnly (cc : Cond) (a : Word) : NextStoresOnly s l (jumpIf cc a s) := by
  unfold jumpIf
  split
  · exact (h.setPc a).finish 4
  · exact h.finish 3

theorem relativeIf_storesOnly (cc : Cond) (e : Byte) : NextStoresOnly s l (relativeIf cc e s) := by
  unfold relativeIf
  split
  · exact (h.setPc _).finish 3
  · exact h.finish 2

theorem returnIf_storesOnly (cc : Cond) : NextStoresOnly s l (returnIf cc s) := by
  unfold returnIf
  split
  · exact nextStoresOnly_cpu h _ 5 rfl rfl
  · exact h.finish 2

theorem haltCpu_storesOnly : NextStoresOnly s l (haltCpu s) := by
  unfold haltCpu
  split
  · exact nextStoresOnly_cpu h _ 1 rfl rfl
  · exact nextStoresOnly_cpu h _ 1 rfl rfl

theorem undefinedOpcode_storesOnly (op : Byte) : NextStoresOnly s l (undefinedOpcode op s) :=
  ⟨_, rfl, h.cpu _ rfl rfl⟩

end

/-- A call stores only when it is taken. -/
theorem callIf_storesOnly {s : State} (cc : Cond) (a : Word)
    (h : StoresOnly s (if s.cond cc then [s.cpu.sp - 1, s.cpu.sp - 2] else []) s) :
    NextStoresOnly s (if s.cond cc then [s.cpu.sp - 1, s.cpu.sp - 2] else []) (callIf cc a s) := by
  unfold callIf
  split_ifs at h ⊢
  · exact callTo_storesOnly h List.mem_cons_self (List.mem_cons_of_mem _ List.mem_cons_self) a 6
  · exact h.finish 3

/-! Every instruction. -/

/-- The instructions not named change the CPU alone. -/
theorem exec_storesOnly {i : Instr} {s : State} (hwf : WellFormed i = true) (hstop : ∀ pad, i ≠ .stop pad)
    (h : StoresOnly s (storeAddresses i s) s) : NextStoresOnly s (storeAddresses i s) (exec i s) := by
  have hfirst : ∀ {a : Word} {l : List Word}, a ∈ a :: l := List.mem_cons_self
  have hsecond : ∀ {a b : Word} {l : List Word}, b ∈ a :: b :: l := List.mem_cons_of_mem _ List.mem_cons_self
  cases i with
  | ld_atBC_A | ld_atDE_A | ld_atHL_n8 | ld_atHL_B | ld_atHL_C | ld_atHL_D | ld_atHL_E | ld_atHL_H | ld_atHL_L
  | ld_atHL_A | ldh_atN8_A | ldh_atC_A | ld_atN16_A => exact storeAt_storesOnly h hfirst _ _
  | ld_atHLI_A | ld_atHLD_A => exact storeThenHL_storesOnly h hfirst _
  | ld_atN16_SP => exact storeSp_storesOnly h hfirst hsecond
  | push_BC | push_DE | push_HL | push_AF => exact pushOf_storesOnly h hfirst hsecond _
  | inc_atHL | dec_atHL => exact stepAtHL_storesOnly h hfirst _
  | rlc_atHL | rrc_atHL | rl_atHL | rr_atHL | sla_atHL | sra_atHL | swap_atHL | srl_atHL =>
    exact rotAt_storesOnly h hfirst _
  | res_0_atHL | res_1_atHL | res_2_atHL | res_3_atHL | res_4_atHL | res_5_atHL | res_6_atHL | res_7_atHL =>
    exact resetBitAtHL_storesOnly h hfirst _
  | set_0_atHL | set_1_atHL | set_2_atHL | set_3_atHL | set_4_atHL | set_5_atHL | set_6_atHL | set_7_atHL =>
    exact setBitAtHL_storesOnly h hfirst _
  | call_n16 | rst_00 | rst_08 | rst_10 | rst_18 | rst_20 | rst_28 | rst_30 | rst_38 =>
    exact callTo_storesOnly h hfirst hsecond _ _
  | call_NZ_n16 a | call_Z_n16 a | call_NC_n16 a | call_C_n16 a => exact callIf_storesOnly _ a h
  | ret_NZ | ret_Z | ret_NC | ret_C => exact returnIf_storesOnly h _
  | jp_NZ_n16 | jp_Z_n16 | jp_NC_n16 | jp_C_n16 => exact jumpIf_storesOnly h _ _
  | jr_NZ_e8 | jr_Z_e8 | jr_NC_e8 | jr_C_e8 => exact relativeIf_storesOnly h _ _
  | halt => exact haltCpu_storesOnly h
  | stop pad => exact absurd rfl (hstop pad)
  | prefixCB => cases hwf
  | illegal_D3 | illegal_DB | illegal_DD | illegal_E3 | illegal_E4 | illegal_EB | illegal_EC | illegal_ED | illegal_F4
  | illegal_FC | illegal_FD => exact undefinedOpcode_storesOnly h _
  | _ => exact nextStoresOnly_cpu h _ _ rfl rfl

/-- Settles O32: an instruction reaches memory only by writes at its own addresses, each to a storage byte. -/
theorem storedBytesOnly : Obligations.StoredBytesOnly := by
  intro i s hwf hstop harrays hstorage
  obtain ⟨t, ht, hstores⟩ := exec_storesOnly hwf hstop (.refl harrays hstorage)
  exact ⟨t, ht, hstores.reads⟩

end Sys2Proof.Machine
end

section
/-! PROOF. The palette index and data ports (spec/21_io_registers.md R122 to R125; spec/92_eei_decisions.md D20). -/

namespace Sys2Proof.Machine

/-! A bus access at an address that names a register is an access to that register. -/

theorem memRead_of_locate_reg {s : State} {a : Word} {r : IoReg} (h : locate s a = .reg r) :
    memRead s a = ioRead s r := by
  rw [memRead, h, Location.read]

theorem memWrite_of_locate_reg {s : State} {a : Word} {r : IoReg} (h : locate s a = .reg r) (v : Byte) :
    memWrite s a v = ioWrite s r v := by
  rw [memWrite, h, Location.write]

/-- From 0xFF00 on, the register directory decides first (R73). -/
theorem locate_of_ioRegAt (s : State) {a : Word} {r : IoReg} (ha : 0xFF00 ≤ a.toNat)
    (h : ioRegAt (a.toNat - 0xFF00) = some r) : locate s a = .reg r := by
  unfold locate
  dsimp only
  iterate 9 rw [if_neg (by omega)]
  rw [locatePage, h]

/-! The four ports lie at fixed addresses, in every state and so in every video mode (D20). -/

theorem locate_bcps (s : State) : locate s 0xFF68 = .reg .bcps := locate_of_ioRegAt s (by decide) (by decide)

theorem locate_bcpd (s : State) : locate s 0xFF69 = .reg .bcpd := locate_of_ioRegAt s (by decide) (by decide)

theorem locate_ocps (s : State) : locate s 0xFF6A = .reg .ocps := locate_of_ioRegAt s (by decide) (by decide)

theorem locate_ocpd (s : State) : locate s 0xFF6B = .reg .ocpd := locate_of_ioRegAt s (by decide) (by decide)

/-- The index after a data write, as numbers: bits 5:0 go on modulo 64 under bit 7, and nothing moves without it.
Bit 6 must be clear, since the masks of R123 keep it while 128 plus the index leaves it out. -/
theorem paletteIndexNext_toNat {p : Byte} (h : bit p 6 = false) :
    (paletteIndexNext p).toNat = if 128 ≤ p.toNat then 128 + (p.toNat % 64 + 1) % 64 else p.toNat := by
  revert p
  decide

/-- Settles O41: each port's address names its register, whose read and write are the register table's, and the
moved index is that of `paletteIndexNext`. -/
theorem palettePorts : Obligations.PalettePorts := by
  intro s v hbcps hocps
  refine ⟨⟨?_, ?_⟩, ⟨?_, ?_⟩, ⟨paletteIndexNext s.video.bcps, paletteIndexNext_toNat hbcps, ?_, ?_⟩,
    ⟨paletteIndexNext s.video.ocps, paletteIndexNext_toNat hocps, ?_, ?_⟩⟩
  · exact memWrite_of_locate_reg (locate_bcps s) v
  · exact memRead_of_locate_reg (locate_bcps s)
  · exact memWrite_of_locate_reg (locate_ocps s) v
  · exact memRead_of_locate_reg (locate_ocps s)
  · exact memWrite_of_locate_reg (locate_bcpd s) v
  · exact memRead_of_locate_reg (locate_bcpd s)
  · exact memWrite_of_locate_reg (locate_ocpd s) v
  · exact memRead_of_locate_reg (locate_ocpd s)

end Sys2Proof.Machine
end

section
/-! PROOF. The 8-bit loads and stores (spec/30_encoding.md R144, R153, R154, R163; spec/40_load8.md R171
to R190). -/

namespace Sys2Proof.Machine

/-! Four families of rows have register fields: per family, the encoding by the fields (R144), and
the shared operation a row runs at them. -/

theorem encode_ldRegReg (dst r : Reg8) :
    encode (.ldRegReg dst r) = [opByte (0x40 + 8 * dst.code + r.code)] := by
  cases dst <;> cases r <;> rfl

theorem encode_ldRegImm (dst : Reg8) (n : Byte) :
    encode (.ldRegImm dst n) = [opByte (0x06 + 8 * dst.code), n] := by
  cases dst <;> rfl

theorem encode_ldRegAtHL (dst : Reg8) : encode (.ldRegAtHL dst) = [opByte (0x46 + 8 * dst.code)] := by
  cases dst <;> rfl

theorem encode_ldAtHLReg (r : Reg8) : encode (.ldAtHLReg r) = [opByte (0x70 + r.code)] := by
  cases r <;> rfl

theorem exec_ldRegReg (dst r : Reg8) (s : State) : exec (.ldRegReg dst r) s = copyReg dst r s := by
  cases dst <;> cases r <;> rfl

theorem exec_ldRegImm (dst : Reg8) (n : Byte) (s : State) : exec (.ldRegImm dst n) s = loadImm dst n s := by
  cases dst <;> rfl

theorem exec_ldRegAtHL (dst : Reg8) (s : State) : exec (.ldRegAtHL dst) s = loadAt dst s.hl 2 s := by
  cases dst <;> rfl

theorem exec_ldAtHLReg (r : Reg8) (s : State) : exec (.ldAtHLReg r) s = storeAt s.hl (s.reg r) 2 s := by
  cases r <;> rfl

/-- An instruction ends at `t` with cost `n` exactly when its row finishes there with that cost (R31). -/
theorem ends_iff {i : Instr} {s t : State} {n : Nat} : Ends i s n t ↔ exec i s = finish n t := Iff.rfl

/-- The effective address keeps the high byte 0xFF: there is no carry into it (R182). -/
theorem highPage_eq_joinBytes (off : Byte) : highPage off = joinBytes 0xFF off := rfl

/-- Settles O1: each word selects its cell of the base table, or of the extended one after 0xCB, and the operand
bytes come low first. -/
theorem writtenWordsDecode : Obligations.WrittenWordsDecode :=
  ⟨rfl, rfl, rfl, rfl, rfl, rfl, rfl, rfl, rfl, rfl, rfl, rfl⟩

/-- Settles O4: the register families run `copyReg`, `loadImm` and `loadAt` at their fields, and each remaining row is
by definition a `loadAt` into `A`. -/
theorem loadsPutTheSourceByte : Obligations.LoadsPutTheSourceByte := by
  intro s
  refine ⟨?regReg, ?regImm, ?regAtHL, ?atBC, ?atDE, ?atN16, ?highC, ?highN8⟩
  case regReg => exact fun dst r => ⟨encode_ldRegReg dst r, ends_iff.mpr (exec_ldRegReg dst r s)⟩
  case regImm => exact fun dst n => ⟨encode_ldRegImm dst n, ends_iff.mpr (exec_ldRegImm dst n s)⟩
  case regAtHL => exact fun dst => ⟨encode_ldRegAtHL dst, ends_iff.mpr (exec_ldRegAtHL dst s)⟩
  case atBC => exact ⟨rfl, ends_iff.mpr rfl⟩
  case atDE => exact ⟨rfl, ends_iff.mpr rfl⟩
  case atN16 => exact fun n => ⟨rfl, ends_iff.mpr rfl⟩
  case highC => exact ⟨rfl, ends_iff.mpr rfl⟩
  case highN8 => exact fun n => ⟨rfl, ends_iff.mpr rfl⟩

/-- Settles O5: the register family and every other row run `storeAt`, and the high-page address is
the offset under the byte 0xFF. -/
theorem storesWriteTheByte : Obligations.StoresWriteTheByte := by
  intro s
  refine ⟨?atHLReg, ?atHLImm, ?atBC, ?atDE, ?atN16, ?highC, ?highN8, ?page⟩
  case atHLReg => exact fun r => ⟨encode_ldAtHLReg r, ends_iff.mpr (exec_ldAtHLReg r s)⟩
  case atHLImm => exact fun n => ⟨rfl, ends_iff.mpr rfl⟩
  case atBC => exact ⟨rfl, ends_iff.mpr rfl⟩
  case atDE => exact ⟨rfl, ends_iff.mpr rfl⟩
  case atN16 => exact fun n => ⟨rfl, ends_iff.mpr rfl⟩
  case highC => exact ⟨rfl, ends_iff.mpr rfl⟩
  case highN8 => exact fun n => ⟨rfl, ends_iff.mpr rfl⟩
  case page =>
    intro off
    rw [highPage_eq_joinBytes]
    exact joinBytes_toNat 0xFF off

/-- Settles O6: the rows run `storeThenHL` and `loadThenHL` with step one or minus one, the
latter said as a subtraction. -/
theorem postStepLoadsAndStores : Obligations.PostStepLoadsAndStores := by
  intro s
  refine ⟨⟨rfl, ends_iff.mpr rfl⟩, ⟨rfl, ?storeDown⟩, ⟨rfl, ends_iff.mpr rfl⟩, ⟨rfl, ?loadDown⟩⟩
  case storeDown =>
    rw [BitVec.sub_eq_add_neg]
    exact ends_iff.mpr rfl
  case loadDown =>
    rw [BitVec.sub_eq_add_neg]
    exact ends_iff.mpr rfl

end Sys2Proof.Machine
end

section
/-! PROOF. The 16-bit loads, the stack and `sp` plus a signed byte (spec/41_load16_stack.md R201 to R207,
spec/43_alu16.md R264, R265, spec/45_control.md R306, R308). -/

namespace Sys2Proof.Machine

/-! The row families with a pair field: the encoding by the field (R145, R146), and the shared operation a row runs. -/

theorem encode_ldPairImm (p : Pair) (n : Word) :
    encode (.ldPairImm p n) = [opByte (0x01 + 16 * p.code), loByte n, hiByte n] := by
  cases p <;> rfl

theorem encode_pushPair (p : StackPair) : encode (.pushPair p) = [opByte (0xC5 + 16 * p.code)] := by
  cases p <;> rfl

theorem exec_ldPairImm (p : Pair) (n : Word) (s : State) : exec (.ldPairImm p n) s = loadPairImm p n s := by
  cases p <;> rfl

theorem exec_pushPair (p : StackPair) (s : State) :
    exec (.pushPair p) s = finish 4 (push16 s (s.stackPair p)) := by
  cases p <;> rfl

theorem exec_popPair (p : StackPair) (s : State) :
    exec (.popPair p) s = finish 3 ((s.setSp (s.cpu.sp + 2)).setStackPair p (popped s)) := by
  cases p <;> rfl

theorem exec_call_n16 (n : Word) (s : State) :
    exec (.call_n16 n) s = finish 6 ((push16 s s.cpu.pc).setPc n) := rfl

theorem exec_ret (s : State) : exec .ret s = finish 4 ((s.setSp (s.cpu.sp + 2)).setPc (popped s)) := rfl

/-! Reading back what was pushed. -/

/-- The second byte of a push goes to two below the old `sp` (R16). -/
theorem push16_eq_pushed (s : State) (v : Word) : push16 s v = pushed s v := by
  have hsp : s.cpu.sp - 1 - 1 = s.cpu.sp - 2 := by bv_omega
  rw [push16_spec, hsp, pushed]

/-- Of the CPU, a pop's word depends on `sp` and the two bits behind KEY1 alone (R118). -/
theorem popped_cpu (s : State) (c : Cpu) (hsp : c.sp = s.cpu.sp) (hspeed : c.doubleSpeed = s.cpu.doubleSpeed)
    (harmed : c.speedArmed = s.cpu.speedArmed) : popped { s with cpu := c } = popped s := by
  simp only [popped, hsp, memRead_cpu s c hspeed harmed]

@[simp] theorem popped_setPc (s : State) (a : Word) : popped (s.setPc a) = popped s := popped_cpu s _ rfl rfl rfl

/-- Ending an instruction changes nothing that the stack instructions look at. -/
theorem finish_next (n : Nat) (s : State) :
    ∃ t, finish n s = .next t ∧ popped t = popped s ∧ t.cpu.sp = s.cpu.sp ∧ t.cpu.pc = s.cpu.pc ∧
      ∀ p, t.stackPair p = s.stackPair p :=
  ⟨_, rfl, popped_cpu s _ rfl rfl rfl, rfl, rfl, fun p => by cases p <;> rfl⟩

/-- A push onto two storage bytes, read at any address: the low byte is written last, so where the two addresses
named one location it would be the low byte's. -/
theorem memRead_push16 {s : State} (harrays : ArraysOk s) (hhi : isStorage (locate s (s.cpu.sp - 1)) = true)
    (hlo : isStorage (locate s (s.cpu.sp - 2)) = true) (v : Word) (b : Word) :
    memRead (push16 s v) b =
      if locate s b = locate s (s.cpu.sp - 2) then loByte v
      else if locate s b = locate s (s.cpu.sp - 1) then hiByte v else memRead s b := by
  have hfirst : StoresOnly s [s.cpu.sp - 1]
      ((memWrite (s.setSp (s.cpu.sp - 1)) (s.cpu.sp - 1) (hiByte v)).setSp (s.cpu.sp - 2)) :=
    (((StoresOnly.refl harrays (by simpa using hhi)).setSp _).write (List.mem_singleton_self _) _).setSp _
  calc memRead (push16 s v) b
      = if locate s b = locate s (s.cpu.sp - 2) then loByte v
        else memRead (memWrite (s.setSp (s.cpu.sp - 1)) (s.cpu.sp - 1) (hiByte v)) b := by
          rw [push16_eq_pushed, pushed, memRead_memWrite_storage (by rw [hfirst.map]; exact hlo) _ hfirst.arrays,
            hfirst.map, hfirst.map, memRead_setSp]
    _ = _ := by
          rw [memRead_memWrite_storage (s := s.setSp (s.cpu.sp - 1)) hhi _ harrays, memRead_setSp]
          rfl

/-- What is pushed onto two different storage bytes is what the next pop reads. -/
theorem popped_push16 {s : State} (harrays : ArraysOk s) (hstack : StackOk s) (v : Word) :
    popped (push16 s v) = v := by
  obtain ⟨hhi, hlo, hne⟩ := hstack
  have hsp : s.cpu.sp - 2 + 1 = s.cpu.sp - 1 := by bv_omega
  have hlow : memRead (push16 s v) (s.cpu.sp - 2) = loByte v := by
    rw [memRead_push16 harrays hhi hlo, if_pos rfl]
  have hhigh : memRead (push16 s v) (s.cpu.sp - 1) = hiByte v := by
    rw [memRead_push16 harrays hhi hlo, if_neg hne, if_pos rfl]
  rw [popped, push16_sp, hsp, hhigh, hlow, joinBytes_hi_lo]

/-- A pair holds any word another pair held, but `AF` only what `AF` held, since `F` has four bits (R23). -/
theorem State.stackPair_setStackPair_stackPair (s t : State) {p q : StackPair} (h : q = .af → p = .af) :
    (t.setStackPair q (s.stackPair p)).stackPair q = s.stackPair p := by
  cases q with
  | bc => exact State.pair_setPair_same t .bc _
  | de => exact State.pair_setPair_same t .de _
  | hl => exact State.pair_setPair_same t .hl _
  | af =>
    obtain rfl := h rfl
    simp [State.stackPair, State.setStackPair]

/-! `sp` plus a signed byte. -/

/-- Sign extension as a number modulo 65536 (R14). -/
theorem sext16_toNat (e : Byte) : ((sext16 e).toNat : Int) = signed8 e % 65536 := by
  revert e
  decide

/-- Adding a sign-extended byte adds its signed reading modulo 65536 (R265). -/
theorem add_sext16_toNat (w : Word) (e : Byte) :
    ((w + sext16 e).toNat : Int) = ((w.toNat : Int) + signed8 e) % 65536 := by
  rw [BitVec.toNat_add, Int.natCast_emod, Nat.cast_add, sext16_toNat]
  exact Int.add_emod_emod _ _ _

/-- Settles O10: the pop finds `sp` where the push left it, and so the word pushed. -/
theorem stackRoundTrip : Obligations.StackRoundTrip := by
  intro s harrays hstack
  constructor
  case left =>
    intro p q hpq
    obtain ⟨t, ht, hpopped, hsp, -, -⟩ := finish_next 4 (push16 s (s.stackPair p))
    obtain ⟨u, hu, -, husp, -, hpair⟩ := finish_next 3 ((t.setSp (t.cpu.sp + 2)).setStackPair q (popped t))
    refine ⟨t, u, (exec_pushPair p s).trans ht, (exec_popPair q t).trans hu, ?_, ?_⟩
    · rw [hpair, hpopped, popped_push16 harrays hstack, State.stackPair_setStackPair_stackPair s _ hpq]
    · rw [husp, State.setStackPair_cpu_sp, State.setSp_cpu_sp, hsp, push16_sp, BitVec.sub_add_cancel]
  case right =>
    intro n
    obtain ⟨t, ht, hpopped, hsp, hpc, -⟩ := finish_next 6 ((push16 s s.cpu.pc).setPc n)
    obtain ⟨u, hu, -, husp, hupc, -⟩ := finish_next 4 ((t.setSp (t.cpu.sp + 2)).setPc (popped t))
    refine ⟨t, u, (exec_call_n16 n s).trans ht, (exec_ret t).trans hu, hpc, ?_, ?_⟩
    · rw [hupc, State.setPc_cpu_pc, hpopped, popped_setPc, popped_push16 harrays hstack]
    · rw [husp, State.setPc_cpu_sp, State.setSp_cpu_sp, hsp, State.setPc_cpu_sp, push16_sp, BitVec.sub_add_cancel]

/-- Settles O19: both rows run `spPlusE`, whose sum is that of `add_sext16_toNat` and whose flags say `16 ≤` and `256 ≤`
as `0x0F <` and `0xFF <`. -/
theorem stackPointerPlusOffset : Obligations.StackPointerPlusOffset := by
  intro s e
  exact ⟨rfl, rfl, s.cpu.sp + sext16 e, add_sext16_toNat s.cpu.sp e, ends_iff.mpr rfl, ends_iff.mpr rfl⟩

/-- Settles O7: the pair family runs `loadPairImm`, and the two remaining rows are by definition `storeSp` and a
write of `sp`. -/
theorem sixteenBitLoads : Obligations.SixteenBitLoads := by
  intro s
  refine ⟨?pairImm, ?storeSp, ?spHL⟩
  case pairImm => exact fun p n => ⟨encode_ldPairImm p n, ends_iff.mpr (exec_ldPairImm p n s)⟩
  case storeSp => exact fun n => ⟨rfl, ends_iff.mpr rfl⟩
  case spHL => exact ⟨rfl, ends_iff.mpr rfl⟩

/-- Settles O9: the rows run `push16` and the pop of `popped`, and `POP AF` keeps the four flag bits. -/
theorem pushAndPop : Obligations.PushAndPop := by
  intro s
  refine ⟨?push, ?bc, ?de, ?hl, ?af⟩
  case push =>
    intro p
    rw [← push16_eq_pushed]
    exact ⟨encode_pushPair p, ends_iff.mpr (exec_pushPair p s)⟩
  case bc => exact ⟨rfl, ends_iff.mpr (exec_popPair .bc s)⟩
  case de => exact ⟨rfl, ends_iff.mpr (exec_popPair .de s)⟩
  case hl => exact ⟨rfl, ends_iff.mpr (exec_popPair .hl s)⟩
  case af => exact ⟨rfl, ends_iff.mpr (exec_popPair .af s)⟩

end Sys2Proof.Machine
end

section
/-! PROOF. 8-bit arithmetic and logic (spec/42_alu8.md R215 to R248). -/

namespace Sys2Proof.Machine

/-! The row families: the encoding by the operand (R144, R155, R156), and the shared operation a row runs. -/

theorem encode_byteOperand (op : AluOp) (o : ByteOperand) : encode (o.instr op) = o.bytes op := by
  cases o with
  | reg r => cases op <;> cases r <;> rfl
  | atHL => cases op <;> rfl
  | imm n => cases op <;> rfl

theorem exec_byteOperand (op : AluOp) (o : ByteOperand) (s : State) :
    exec (o.instr op) s = aluWith op (o.value s) o.cost s := by
  cases o with
  | reg r => cases op <;> cases r <;> rfl
  | atHL => cases op <;> rfl
  | imm n => cases op <;> rfl

theorem encode_incReg (r : Reg8) : encode (.incReg r) = [opByte (0x04 + 8 * r.code)] := by
  cases r <;> rfl

theorem encode_decReg (r : Reg8) : encode (.decReg r) = [opByte (0x05 + 8 * r.code)] := by
  cases r <;> rfl

theorem exec_incReg (r : Reg8) (s : State) : exec (.incReg r) s = stepReg inc8 r s := by
  cases r <;> rfl

theorem exec_inc_atHL (s : State) : exec .inc_atHL s = stepAtHL inc8 s := rfl

theorem exec_decReg (r : Reg8) (s : State) : exec (.decReg r) s = stepReg dec8 r s := by
  cases r <;> rfl

theorem exec_dec_atHL (s : State) : exec .dec_atHL s = stepAtHL dec8 s := rfl

/-- An ALU result answers a next state that takes `A` and the flags from it and changes nothing else but the
countdown. -/
theorem aluResult_next (r : Byte × Flags) (n : Nat) (s : State) :
    ∃ t, aluResult r n s = .next t ∧ OnlyAluState n s t ∧ t.cpu.a = r.1 ∧ t.cpu.f = r.2 :=
  ⟨_, rfl, rfl, rfl, rfl⟩

/-- Every ALU row takes the result of `alu` on `A` and its operand. -/
theorem exec_byteOperand_next (op : AluOp) (o : ByteOperand) (s : State) :
    ∃ t, exec (o.instr op) s = .next t ∧ OnlyAluState o.cost s t ∧
      t.cpu.a = (alu op s.cpu.a (o.value s) s.cpu.f).1 ∧ t.cpu.f = (alu op s.cpu.a (o.value s) s.cpu.f).2 := by
  rw [exec_byteOperand]
  exact aluResult_next _ _ s

/-! `add8` and `sub8` in numbers (R216). -/

@[simp] theorem carryIn_false : carryIn false = 0 := rfl

section
variable (a b : Byte) (cin : Bool)

theorem add8_value : (add8 a b cin).value.toNat = (a.toNat + b.toNat + carryIn cin) % 256 :=
  BitVec.toNat_ofNat ..

theorem add8_z : (add8 a b cin).z = true ↔ (a.toNat + b.toNat + carryIn cin) % 256 = 0 := by
  rw [← add8_value]
  exact decide_eq_true_iff.trans BitVec.toNat_inj.symm

theorem add8_h : (add8 a b cin).h = true ↔ 16 ≤ a.toNat % 16 + b.toNat % 16 + carryIn cin := decide_eq_true_iff

theorem add8_c : (add8 a b cin).c = true ↔ 256 ≤ a.toNat + b.toNat + carryIn cin := decide_eq_true_iff

theorem sub8_value : ((sub8 a b cin).value.toNat : Int) = ((a.toNat : Int) - b.toNat - carryIn cin) % 256 := by
  have hnonneg := Int.emod_nonneg ((a.toNat : Int) - b.toNat - carryIn cin) (b := 256) (by decide)
  exact (congrArg Nat.cast (BitVec.toNat_ofInt ..)).trans (Int.toNat_of_nonneg hnonneg)

theorem sub8_z : (sub8 a b cin).z = true ↔ ((a.toNat : Int) - b.toNat - carryIn cin) % 256 = 0 := by
  rw [← sub8_value, Int.natCast_eq_zero]
  exact decide_eq_true_iff.trans BitVec.toNat_inj.symm

theorem sub8_h : (sub8 a b cin).h = true ↔ a.toNat % 16 < b.toNat % 16 + carryIn cin := decide_eq_true_iff

theorem sub8_c : (sub8 a b cin).c = true ↔ a.toNat < b.toNat + carryIn cin := decide_eq_true_iff

end

/-- `ADD` is `ADC` with no carry-in (R217, R220). -/
theorem alu_add (withCarry : Bool) (a b : Byte) (f : Flags) :
    ∃ r, r = add8 a b (withCarry && f.c) ∧
      alu (if withCarry then .adc else .add) a b f = (r.value, ⟨r.z, false, r.h, r.c⟩) := by
  refine ⟨_, rfl, ?_⟩
  cases withCarry <;> rfl

/-- `SUB` and `CP` are `SBC` with no carry-in, and `CP` keeps `A` (R223, R226, R238). -/
theorem alu_subtract {op : AluOp} (hop : op = .sub ∨ op = .sbc ∨ op = .cp) (a b : Byte) (f : Flags) :
    ∃ r, r = sub8 a b (decide (op = .sbc ∧ f.c = true)) ∧
      alu op a b f = (if op = .cp then a else r.value, ⟨r.z, true, r.h, r.c⟩) := by
  refine ⟨_, rfl, ?_⟩
  obtain rfl | rfl | rfl := hop
  · rfl
  · simp [alu]
  · rfl

/-- Settles O11: every row runs `aluWith`, and both operations are `add8` with the carry-in that `ADC` takes. -/
theorem addSetsSumAndCarries : Obligations.AddSetsSumAndCarries := by
  intro s o withCarry op a x c
  obtain ⟨t, ht, honly, ha, hf⟩ := exec_byteOperand_next op o s
  obtain ⟨r, rfl, halu⟩ := alu_add withCarry s.cpu.a (o.value s) s.cpu.f
  rw [halu] at ha hf
  refine ⟨encode_byteOperand op o, t, ht, honly, ?_⟩
  rw [ha, hf]
  exact ⟨add8_value .., add8_z .., rfl, add8_h .., add8_c ..⟩

/-- Settles O12: every row runs `aluWith`, and the three operations are `sub8` with the carry-in that `SBC` takes. -/
theorem subtractSetsDifferenceAndBorrows : Obligations.SubtractSetsDifferenceAndBorrows := by
  intro s o op hop a x c r
  obtain ⟨t, ht, honly, ha, hf⟩ := exec_byteOperand_next op o s
  obtain ⟨d, hd, halu⟩ := alu_subtract hop s.cpu.a (o.value s) s.cpu.f
  rw [halu] at ha hf
  have hc : (carryIn (decide (op = .sbc ∧ s.cpu.f.c = true)) : Int) = c := by simp [carryIn, c]
  have hvalue : (d.value.toNat : Int) = r := by rw [hd, sub8_value, hc]
  refine ⟨encode_byteOperand op o, t, ht, honly, ?_⟩
  rw [ha, hf]
  refine ⟨?_, ?_, rfl, ?_, ?_⟩
  · rw [← hvalue]
    split <;> rfl
  · rw [hd, sub8_z, hc]
  · rw [hd, sub8_h, ← hc]
    norm_cast
  · rw [hd, sub8_c, ← hc]
    norm_cast

/-- Settles O13: every row runs `aluWith`, and each bit of the result is the operation on the two bits. -/
theorem logicActsBitwise : Obligations.LogicActsBitwise := by
  intro s o op hop x
  obtain ⟨t, ht, honly, ha, hf⟩ := exec_byteOperand_next op o s
  refine ⟨encode_byteOperand op o, t, ht, honly, ?_⟩
  rw [ha, hf]
  obtain rfl | rfl | rfl := hop
  · exact ⟨fun i _ => BitVec.getLsbD_and, decide_eq_true_iff, rfl, iff_of_true rfl rfl, rfl⟩
  · exact ⟨fun i _ => BitVec.getLsbD_xor, decide_eq_true_iff, rfl, iff_of_false Bool.false_ne_true nofun, rfl⟩
  · exact ⟨fun i _ => BitVec.getLsbD_or, decide_eq_true_iff, rfl, iff_of_false Bool.false_ne_true nofun, rfl⟩

/-! One up and one down (R241, R243). -/

theorem lowNibble_toNat (v : Byte) : (v &&& 0x0F).toNat = v.toNat % 16 := by
  rw [BitVec.toNat_and]
  exact Nat.and_two_pow_sub_one_eq_mod v.toNat 4

/-- `H` of an increment is the carry out of bit 3. -/
theorem inc8_eq (v : Byte) (f : Flags) :
    inc8 v f = (v + 1, ⟨decide (v + 1 = 0), false, decide (v.toNat % 16 = 15), f.c⟩) := by
  simp only [inc8, ← lowNibble_toNat, ← BitVec.toNat_inj]
  rfl

/-- `H` of a decrement is the borrow into bit 3. -/
theorem dec8_eq (v : Byte) (f : Flags) :
    dec8 v f = (v - 1, ⟨decide (v - 1 = 0), true, decide (v.toNat % 16 = 0), f.c⟩) := by
  simp only [dec8, ← lowNibble_toNat, ← BitVec.toNat_inj]
  rfl

theorem add_one_toNat (v : Byte) : (v + 1).toNat = (v.toNat + 1) % 256 := BitVec.toNat_add v 1

theorem sub_one_toNat (v : Byte) : (v - 1).toNat = (v.toNat + 255) % 256 := by
  rw [Nat.add_comm]
  exact BitVec.toNat_sub v 1

/-- Settles O14: the rows run `stepReg` and `stepAtHL` of `inc8` and `dec8`. -/
theorem incrementDecrementByte : Obligations.IncrementDecrementByte := by
  intro s
  refine ⟨?inc, ?incAtHL, ?dec, ?decAtHL⟩
  case inc =>
    refine fun r => ⟨encode_incReg r, _, add_one_toNat _, ?_⟩
    rw [ends_iff, exec_incReg, stepReg, inc8_eq]
  case incAtHL =>
    refine ⟨rfl, _, add_one_toNat _, ?_⟩
    rw [ends_iff, exec_inc_atHL, stepAtHL, inc8_eq]
  case dec =>
    refine fun r => ⟨encode_decReg r, _, sub_one_toNat _, ?_⟩
    rw [ends_iff, exec_decReg, stepReg, dec8_eq]
  case decAtHL =>
    refine ⟨rfl, _, sub_one_toNat _, ?_⟩
    rw [ends_iff, exec_dec_atHL, stepAtHL, dec8_eq]

/-! Decimal adjust (R245). -/

section
variable (a : Byte) (f : Flags)

theorem daa_n : (daa a f).2.n = f.n := by
  unfold daa
  split <;> rfl

theorem daa_h : (daa a f).2.h = false := by
  unfold daa
  split <;> rfl

theorem daa_z : (daa a f).2.z = true ↔ (daa a f).1 = 0 := by
  unfold daa
  split <;> exact decide_eq_true_iff

theorem daa_c_of_add (hn : f.n = false) : (daa a f).2.c = true ↔ f.c = true ∨ 0x99 < a.toNat := by
  simp [daa, hn]

theorem daa_value_of_add (hn : f.n = false) :
    (daa a f).1.toNat =
      (a.toNat + (if f.c = true ∨ 0x99 < a.toNat then 0x60 else 0) +
        (if f.h = true ∨ 9 < a.toNat % 16 then 6 else 0)) % 256 := by
  simp only [daa, hn, Bool.false_eq_true, if_false, Bool.or_eq_true, decide_eq_true_iff]
  split_ifs <;> bv_omega

theorem daa_c_of_sub (hn : f.n = true) : (daa a f).2.c = f.c := by
  simp [daa, hn]

theorem daa_value_of_sub (hn : f.n = true) :
    (daa a f).1.toNat =
      (a.toNat + (if f.c = true then 256 - 0x60 else 0) + (if f.h = true then 256 - 6 else 0)) % 256 := by
  simp only [daa, hn, if_true]
  split_ifs <;> bv_omega

end

theorem exec_daa_next (s : State) :
    ∃ t, exec .daa s = .next t ∧ OnlyAluState 1 s t ∧ t.cpu.a = (daa s.cpu.a s.cpu.f).1 ∧
      t.cpu.f = (daa s.cpu.a s.cpu.f).2 := aluResult_next _ 1 s

/-- Settles O15: the row takes the result of `daa`, by whether the last operation was an addition. -/
theorem decimalAdjustRule : Obligations.DecimalAdjustRule := by
  intro s a f
  obtain ⟨t, ht, honly, ha, hf⟩ := exec_daa_next s
  refine ⟨rfl, t, ht, honly, ?_⟩
  rw [ha, hf]
  exact ⟨daa_n .., daa_h .., daa_z .., fun hn => ⟨daa_c_of_add _ _ hn, daa_value_of_add _ _ hn⟩,
    fun hn => ⟨daa_c_of_sub _ _ hn, daa_value_of_sub _ _ hn⟩⟩

theorem bcd_toNat {x : Nat} (hx : x < 100) : (bcd x).toNat = 16 * (x / 10) + x % 10 :=
  (BitVec.toNat_ofNat ..).trans (Nat.mod_eq_of_lt (by omega))

/-- The corrections turn a sum of digits to base 16 into the digits to base 10 of the sum below a hundred: 6 carries the
low digit, 0x60 drops the hundred. -/
theorem decimal_digits_of_corrected (p q : Nat) (hp : p ≤ 18) (hq : q ≤ 18) :
    (16 * p + q + (if 100 ≤ 10 * p + q then 0x60 else 0) + (if 10 ≤ q then 6 else 0)) % 256 =
      16 * ((10 * p + q) % 100 / 10) + (10 * p + q) % 100 % 10 := by
  split_ifs
  · have hmod : (10 * p + q) % 100 = 10 * (p - 9) + (q - 10) := by omega
    omega
  · have hmod : (10 * p + q) % 100 = 10 * (p - 10) + q := by omega
    omega
  · have hmod : (10 * p + q) % 100 = 10 * (p + 1) + (q - 10) := by omega
    omega
  · have hmod : (10 * p + q) % 100 = 10 * p + q := by omega
    omega

/-- The sum of two BCD bytes, adjusted: the carry is the hundred (R245). -/
theorem daa_add8_bcd {x y : Nat} (hx : x < 100) (hy : y < 100) {r : Sum8} (hr : r = add8 (bcd x) (bcd y) false) :
    (daa r.value ⟨r.z, false, r.h, r.c⟩).1 = bcd ((x + y) % 100) ∧
      ((daa r.value ⟨r.z, false, r.h, r.c⟩).2.c = true ↔ 100 ≤ x + y) := by
  obtain ⟨p, hp⟩ : ∃ p, p = x / 10 + y / 10 := ⟨_, rfl⟩
  obtain ⟨q, hq⟩ : ∃ q, q = x % 10 + y % 10 := ⟨_, rfl⟩
  have hsum : x + y = 10 * p + q := by omega
  have hbytes : (bcd x).toNat + (bcd y).toNat = 16 * p + q := by rw [bcd_toNat hx, bcd_toNat hy]; omega
  have hvalue : r.value.toNat = (16 * p + q) % 256 := by rw [hr, add8_value, hbytes]; rfl
  have hlow : r.h = true ∨ 9 < r.value.toNat % 16 ↔ 10 ≤ q := by
    rw [hr, add8_h, ← hr, hvalue, bcd_toNat hx, bcd_toNat hy, carryIn_false]
    omega
  have hhigh : r.c = true ∨ 0x99 < r.value.toNat ↔ 100 ≤ 10 * p + q := by
    rw [hr, add8_c, ← hr, hvalue, hbytes, carryIn_false]
    omega
  rw [hsum]
  constructor
  · apply BitVec.eq_of_toNat_eq
    rw [daa_value_of_add _ _ rfl, bcd_toNat (Nat.mod_lt _ (by decide)),
      ← decimal_digits_of_corrected p q (by omega) (by omega)]
    simp only [hlow, hhigh]
    rw [hvalue, Nat.add_assoc, Nat.mod_add_mod, ← Nat.add_assoc]
  · rw [daa_c_of_add _ _ rfl, hhigh]

/-- The difference of two BCD bytes that does not go below zero, adjusted (R245). -/
theorem daa_sub8_bcd {x y : Nat} (hx : x < 100) (hyx : y ≤ x) {r : Sum8} (hr : r = sub8 (bcd x) (bcd y) false) :
    (daa r.value ⟨r.z, true, r.h, r.c⟩).1 = bcd (x - y) ∧
      (daa r.value ⟨r.z, true, r.h, r.c⟩).2.c = false := by
  have hxn := bcd_toNat hx
  have hyn := bcd_toNat (hyx.trans_lt hx)
  have hvalue : r.value.toNat = 16 * (x / 10) + x % 10 - (16 * (y / 10) + y % 10) := by
    have hint := sub8_value (bcd x) (bcd y) false
    rw [← hr, hxn, hyn, carryIn_false] at hint
    omega
  have hhalf : r.h = true ↔ x % 10 < y % 10 := by
    rw [hr, sub8_h, hxn, hyn, carryIn_false]
    omega
  have hclear : r.c = false := by
    rw [← Bool.not_eq_true, hr, sub8_c, hxn, hyn, carryIn_false]
    omega
  constructor
  · apply BitVec.eq_of_toNat_eq
    rw [daa_value_of_sub _ _ rfl, bcd_toNat (by omega), hvalue]
    simp only [hhalf, hclear, Bool.false_eq_true, if_false]
    split_ifs
    · have hdiff : x - y = 10 * (x / 10 - y / 10 - 1) + (x % 10 + 10 - y % 10) := by omega
      omega
    · have hdiff : x - y = 10 * (x / 10 - y / 10) + (x % 10 - y % 10) := by omega
      omega
  · rw [daa_c_of_sub _ _ rfl, hclear]

/-- Settles O16: `DAA` finds in `A` and the flags what `add8` and `sub8` gave. -/
theorem decimalAdjustGivesDecimalResults : Obligations.DecimalAdjustGivesDecimalResults := by
  intro s x y hx hy hsa hsb
  constructor
  · obtain ⟨t, ht, -, hta, htf⟩ := exec_byteOperand_next .add (.reg .b) s
    obtain ⟨u, hu, -, hua, huf⟩ := exec_daa_next t
    obtain ⟨hvalue, hcarry⟩ := daa_add8_bcd hx hy rfl
    refine ⟨t, u, ht, hu, ?_⟩
    rw [hua, huf, hta, htf, ByteOperand.value, State.reg, hsa, hsb]
    exact ⟨hvalue, hcarry⟩
  · intro hyx
    obtain ⟨t, ht, -, hta, htf⟩ := exec_byteOperand_next .sub (.reg .b) s
    obtain ⟨u, hu, -, hua, huf⟩ := exec_daa_next t
    obtain ⟨hvalue, hcarry⟩ := daa_sub8_bcd hx hyx rfl
    refine ⟨t, u, ht, hu, ?_⟩
    rw [hua, huf, hta, htf, ByteOperand.value, State.reg, hsa, hsb]
    exact ⟨hvalue, hcarry⟩

/-- Settles O17: each row is an ALU result that leaves the other flags, and for the carry operations `A`, as they
were. -/
theorem complementAndCarryFlagOps : Obligations.ComplementAndCarryFlagOps := by
  intro s
  exact ⟨⟨rfl, ends_iff.mpr rfl⟩, ⟨rfl, ends_iff.mpr rfl⟩, ⟨rfl, ends_iff.mpr rfl⟩⟩

end Sys2Proof.Machine
end

section
/-! PROOF. The table of flag effects (spec/42_alu8.md R215), row by row of the opcode table. -/

namespace Sys2Proof.Machine

/-- A flag after an instruction by its entry of the table, from the flag before and the flag the result gives. -/
def FlagEffect.apply (e : FlagEffect) (before result : Bool) : Bool :=
  match e with
  | .result => result
  | .zero => false
  | .one => true
  | .kept => before

/-- The flags after an instruction by its row of the table, from the flags before and the flags the result gives. -/
def FlagRow.apply (row : FlagRow) (before result : Flags) : Flags :=
  ⟨row.z.apply before.z result.z, row.n.apply before.n result.n, row.h.apply before.h result.h,
    row.c.apply before.c result.c⟩

/-- A flag obeys an entry when the entry, given that flag as the result, answers it. -/
theorem flagObeys_iff (e : FlagEffect) (before after : Bool) :
    FlagObeys e before after ↔ e.apply before after = after := by
  cases e with
  | result => exact iff_of_true trivial rfl
  | zero => exact eq_comm
  | one => exact eq_comm
  | kept => exact eq_comm

/-- The row of an instruction of the base table is that of its opcode with zero operand bytes. -/
theorem flagRow_of_opcode {i : Instr} {op : Byte} {bs : List Byte} {row : FlagRow} (hi : encode i = op :: bs)
    (hop : op ≠ 0xCB ∧ (encode (decodeWindow op 0 0)).head? = some op ∧ flagRow (decodeWindow op 0 0) = row) :
    flagRow i = row := by
  obtain ⟨hbase, hhead, hrow⟩ := hop
  obtain ⟨cs, hcs⟩ := List.head?_eq_some_iff.mp hhead
  have hprefix : op.toNat ≠ 0xCB := fun h => hbase (BitVec.eq_of_toNat_eq h)
  rw [← hrow, flagRow, flagRow, hi, hcs]
  simp only [List.map_cons, List.headD_cons, hprefix, if_false]

theorem flagRow_add_SP_e8 (e : Byte) : flagRow (.add_SP_e8 e) = ⟨.zero, .zero, .result, .result⟩ :=
  flagRow_of_opcode rfl (by decide)

theorem flagRow_ld_HL_SP_e8 (e : Byte) : flagRow (.ld_HL_SP_e8 e) = ⟨.zero, .zero, .result, .result⟩ :=
  flagRow_of_opcode rfl (by decide)

/-- The immediate forms have the row of the other operand forms (R215). -/
theorem flagRow_aluImm (op : AluOp) (n : Byte) : flagRow (.aluImm op n) = flagRow (.aluAtHL op) := by
  cases op <;> exact flagRow_of_opcode rfl (by decide)

/-- The outcome `o` is a next state whose flags obey the row `row`. -/
def NextObeys (s : State) (o : Out) (row : FlagRow) : Prop :=
  ∃ t, o = .next t ∧ row.apply s.cpu.f t.cpu.f = t.cpu.f

/-- An instruction that ends with flags which are those of its row. -/
theorem finish_obeys {s u : State} {row : FlagRow} (n : Nat) (h : row.apply s.cpu.f u.cpu.f = u.cpu.f) :
    NextObeys s (finish n u) row := ⟨_, rfl, h⟩

/-- The row of the instructions that are not in the table. -/
def FlagRow.allKept : FlagRow := ⟨.kept, .kept, .kept, .kept⟩

section
variable {s u v : State} {row : FlagRow} (hrow : row = .allKept)
include hrow

/-- An instruction that is not in the table and ends with the flags it began with. -/
theorem finish_keepsFlags (n : Nat) (hu : u.cpu.f = s.cpu.f) : NextObeys s (finish n u) row :=
  finish_obeys n (hrow ▸ hu.symm)

/-- An instruction that is not in the table and ends in one of two ways. -/
theorem ite_keepsFlags {p : Prop} [Decidable p] (n m : Nat) (hu : u.cpu.f = s.cpu.f) (hv : v.cpu.f = s.cpu.f) :
    NextObeys s (if p then finish n u else finish m v) row := by
  split
  · exact finish_keepsFlags hrow n hu
  · exact finish_keepsFlags hrow m hv

/-- A fatal condition keeps the flags (R341). -/
theorem raiseFatal_keepsFlags (r : FatalReason) : NextObeys s (raiseFatal r s) row :=
  ⟨_, rfl, by rw [hrow]; rfl⟩

end

/-- `STOP` keeps the flags whether or not a speed switch is armed (R323). -/
theorem stopCpu_keepsFlags {row : FlagRow} (hrow : row = .allKept) (s : State) : NextObeys s (stopCpu s) row := by
  unfold stopCpu
  split
  · exact finish_keepsFlags hrow 1 rfl
  · exact raiseFatal_keepsFlags hrow _

@[simp] theorem callTo_flags (a : Word) (s : State) : (callTo a s).cpu.f = s.cpu.f := by
  simp [callTo_spec]

/-- `DAA` keeps `N` and clears `H` on both its ways (R245). -/
theorem daa_obeys (s : State) : NextObeys s (execDaa s) ⟨.result, .kept, .zero, .result⟩ := by
  unfold execDaa aluResult daa
  split
  · exact finish_obeys 1 rfl
  · exact finish_obeys 1 rfl

/-- An immediate form gives all four flags in the form of its row (R215). -/
theorem aluImm_obeys (op : AluOp) (n : Byte) (s : State) :
    NextObeys s (exec (.aluImm op n) s) (flagRow (.aluImm op n)) := by
  rw [flagRow_aluImm]
  cases op <;> exact finish_obeys 2 rfl

/-- Every instruction obeys its row of R215. The instructions not named have no operand byte, and they leave the flags
or write all four in the form their row says. -/
theorem exec_obeys {i : Instr} (hwf : WellFormed i = true) (s : State) : NextObeys s (exec i s) (flagRow i) := by
  cases i with
  | prefixCB => cases hwf
  | daa => exact daa_obeys s
  | add_A_n8 n => exact aluImm_obeys .add n s
  | adc_A_n8 n => exact aluImm_obeys .adc n s
  | sub_n8 n => exact aluImm_obeys .sub n s
  | sbc_A_n8 n => exact aluImm_obeys .sbc n s
  | and_n8 n => exact aluImm_obeys .and n s
  | xor_n8 n => exact aluImm_obeys .xor n s
  | or_n8 n => exact aluImm_obeys .or n s
  | cp_n8 n => exact aluImm_obeys .cp n s
  | add_SP_e8 e =>
    rw [flagRow_add_SP_e8]
    exact finish_obeys 4 rfl
  | ld_HL_SP_e8 e =>
    rw [flagRow_ld_HL_SP_e8]
    exact finish_obeys 3 rfl
  | stop => exact stopCpu_keepsFlags (flagRow_of_opcode rfl (by decide)) s
  | illegal_D3 | illegal_DB | illegal_DD | illegal_E3 | illegal_E4 | illegal_EB | illegal_EC | illegal_ED | illegal_F4
  | illegal_FC | illegal_FD => exact raiseFatal_keepsFlags rfl _
  | halt | ret_NZ | ret_Z | ret_NC | ret_C => exact ite_keepsFlags rfl _ _ rfl rfl
  | jp_NZ_n16 | jp_Z_n16 | jp_NC_n16 | jp_C_n16 | jr_NZ_e8 | jr_Z_e8 | jr_NC_e8 | jr_C_e8 =>
    exact ite_keepsFlags (flagRow_of_opcode rfl (by decide)) _ _ rfl rfl
  | call_NZ_n16 | call_Z_n16 | call_NC_n16 | call_C_n16 =>
    exact ite_keepsFlags (flagRow_of_opcode rfl (by decide)) _ _ (callTo_flags _ s) rfl
  | call_n16 => exact finish_keepsFlags (flagRow_of_opcode rfl (by decide)) _ (callTo_flags _ s)
  | rst_00 | rst_08 | rst_10 | rst_18 | rst_20 | rst_28 | rst_30 | rst_38 =>
    exact finish_keepsFlags rfl _ (callTo_flags _ s)
  | push_BC | push_DE | push_HL | push_AF => exact finish_keepsFlags rfl _ (push16_flags s _)
  | ld_atHLI_A | ld_atHLD_A =>
    exact finish_keepsFlags rfl _ ((State.setPair_cpu_f _ _ _).trans (memWrite_cpu_f s _ _))
  | ld_atN16_SP =>
    exact finish_keepsFlags (flagRow_of_opcode rfl (by decide)) _
      ((memWrite_cpu_f _ _ _).trans (memWrite_cpu_f s _ _))
  | ld_atHL_n8 | ldh_atN8_A | ld_atN16_A =>
    exact finish_keepsFlags (flagRow_of_opcode rfl (by decide)) _ (memWrite_cpu_f s _ _)
  | ld_atBC_A | ld_atDE_A | ld_atHL_B | ld_atHL_C | ld_atHL_D | ld_atHL_E | ld_atHL_H | ld_atHL_L | ld_atHL_A
  | ldh_atC_A
  | res_0_atHL | res_1_atHL | res_2_atHL | res_3_atHL | res_4_atHL | res_5_atHL | res_6_atHL | res_7_atHL
  | set_0_atHL | set_1_atHL | set_2_atHL | set_3_atHL | set_4_atHL | set_5_atHL | set_6_atHL | set_7_atHL =>
    exact finish_keepsFlags rfl _ (memWrite_cpu_f s _ _)
  | ld_B_n8 | ld_C_n8 | ld_D_n8 | ld_E_n8 | ld_H_n8 | ld_L_n8 | ld_A_n8 | ld_BC_n16 | ld_DE_n16 | ld_HL_n16 | ld_SP_n16
  | ldh_A_atN8 | ld_A_atN16 | jp_n16 | jr_e8 =>
    exact finish_keepsFlags (flagRow_of_opcode rfl (by decide)) _ rfl
  | _ => exact finish_obeys _ rfl

/-- Settles O33: every instruction obeys its row, flag by flag. -/
theorem flagEffectTable : Obligations.FlagEffectTable := by
  intro i s hwf
  obtain ⟨t, ht, hrow⟩ := exec_obeys hwf s
  obtain ⟨hz, hn, hh, hc⟩ := Flags.mk.inj hrow
  exact ⟨t, ht, (flagObeys_iff ..).mpr hz, (flagObeys_iff ..).mpr hn, (flagObeys_iff ..).mpr hh,
    (flagObeys_iff ..).mpr hc⟩

end Sys2Proof.Machine
end

section
/-! PROOF. 16-bit arithmetic on the register pairs (spec/43_alu16.md R261 to R263). -/

namespace Sys2Proof.Machine

/-! The three row families with a pair field: the encoding by the field (R145), and the shared operation a row runs. -/

section
variable (p : Pair)

theorem encode_addHLPair : encode (.addHLPair p) = [opByte (0x09 + 16 * p.code)] := by
  cases p <;> rfl

theorem encode_incPair : encode (.incPair p) = [opByte (0x03 + 16 * p.code)] := by
  cases p <;> rfl

theorem encode_decPair : encode (.decPair p) = [opByte (0x0B + 16 * p.code)] := by
  cases p <;> rfl

variable (s : State)

theorem exec_addHLPair : exec (.addHLPair p) s = addToHL p s := by
  cases p <;> rfl

theorem exec_incPair : exec (.incPair p) s = movePair p 1 s := by
  cases p <;> rfl

theorem exec_decPair : exec (.decPair p) s = movePair p (-1) s := by
  cases p <;> rfl

end

/-! `addHL` in numbers (R261). -/

section
variable (a b : Word) (f : Flags)

theorem addHL_value : (addHL a b f).1.toNat = (a.toNat + b.toNat) % 65536 := BitVec.toNat_ofNat ..

/-- A carry is a sum of at least the next power of two, where `addHL` compares with the number below it. -/
theorem addHL_flags :
    (addHL a b f).2 =
      ⟨f.z, false, decide (4096 ≤ a.toNat % 4096 + b.toNat % 4096), decide (65536 ≤ a.toNat + b.toNat)⟩ := rfl

end

/-! One up and one down (R262, R263). -/

theorem word_add_one_toNat (w : Word) : (w + 1).toNat = (w.toNat + 1) % 65536 := BitVec.toNat_add w 1

theorem word_add_neg_one_toNat (w : Word) : (w + -1).toNat = (w.toNat + 65535) % 65536 := BitVec.toNat_add w (-1)

/-- Settles O18: the rows run `addToHL` of `addHL`, and `movePair` by one and by minus one, which is 65535. -/
theorem sixteenBitArithmetic : Obligations.SixteenBitArithmetic := by
  intro s p a b
  refine ⟨⟨encode_addHLPair p, _, addHL_value s.hl (s.pair p) s.cpu.f, ?add⟩,
    ⟨encode_incPair p, _, word_add_one_toNat (s.pair p), ?inc⟩,
    ⟨encode_decPair p, _, word_add_neg_one_toNat (s.pair p), ?dec⟩⟩
  case add => rw [ends_iff, exec_addHLPair, addToHL, addHL_flags]
  case inc => exact ends_iff.mpr (exec_incPair p s)
  case dec => exact ends_iff.mpr (exec_decPair p s)

end Sys2Proof.Machine
end

section
/-! PROOF. Rotates, shifts, swaps and bit operations (spec/44_rotate_shift_bit.md R270 to R296). -/

namespace Sys2Proof.Machine

/-! The row families of the extended table: the encoding by the fields (R144, R149), and the shared operation a row
runs. -/

section
variable (op : RotOp) (b : Fin 8) (r : Reg8)

theorem encode_rotReg : encode (.rotReg op r) = [0xCB, opByte (8 * op.code + r.code)] := by
  cases op <;> cases r <;> rfl

theorem encode_rotAtHL : encode (.rotAtHL op) = [0xCB, opByte (8 * op.code + 6)] := by
  cases op <;> rfl

theorem encode_bitReg : encode (.bitReg b r) = [0xCB, opByte (0x40 + 8 * b + r.code)] := by
  fin_cases b <;> cases r <;> rfl

theorem encode_bitAtHL : encode (.bitAtHL b) = [0xCB, opByte (0x46 + 8 * b)] := by
  fin_cases b <;> rfl

theorem encode_resReg : encode (.resReg b r) = [0xCB, opByte (0x80 + 8 * b + r.code)] := by
  fin_cases b <;> cases r <;> rfl

theorem encode_resAtHL : encode (.resAtHL b) = [0xCB, opByte (0x86 + 8 * b)] := by
  fin_cases b <;> rfl

theorem encode_setReg : encode (.setReg b r) = [0xCB, opByte (0xC0 + 8 * b + r.code)] := by
  fin_cases b <;> cases r <;> rfl

theorem encode_setAtHL : encode (.setAtHL b) = [0xCB, opByte (0xC6 + 8 * b)] := by
  fin_cases b <;> rfl

variable (s : State)

theorem exec_rotReg : exec (.rotReg op r) s = rotOf op r s := by
  cases op <;> cases r <;> rfl

theorem exec_rotAtHL : exec (.rotAtHL op) s = rotAt op s := by
  cases op <;> rfl

theorem exec_bitReg : exec (.bitReg b r) s = testReg b r s := by
  fin_cases b <;> cases r <;> rfl

theorem exec_bitAtHL : exec (.bitAtHL b) s = testAtHL b s := by
  fin_cases b <;> rfl

theorem exec_resReg : exec (.resReg b r) s = resetBitReg b r s := by
  fin_cases b <;> cases r <;> rfl

theorem exec_resAtHL : exec (.resAtHL b) s = resetBitAtHL b s := by
  fin_cases b <;> rfl

theorem exec_setReg : exec (.setReg b r) s = setBitReg b r s := by
  fin_cases b <;> cases r <;> rfl

theorem exec_setAtHL : exec (.setAtHL b) s = setBitAtHL b s := by
  fin_cases b <;> rfl

end

/-! Single bits (R12, R293, R295). -/

theorem bit_or (v w : Byte) (i : Nat) : bit (v ||| w) i = (bit v i || bit w i) := BitVec.getLsbD_or

theorem bit_and (v w : Byte) (i : Nat) : bit (v &&& w) i = (bit v i && bit w i) := BitVec.getLsbD_and

theorem bit_not (v : Byte) {i : Nat} (hi : i < 8) : bit (~~~v) i = !bit v i := by
  rw [bit, BitVec.getLsbD_not, decide_eq_true hi, Bool.true_and, bit]

theorem bit_one_shiftLeft {i : Nat} (hi : i < 8) (k : Nat) : bit (1#8 <<< k) i = decide (i = k) := by
  rw [bit, ← BitVec.twoPow_eq, BitVec.getLsbD_twoPow, decide_eq_decide.mpr eq_comm]
  exact Bool.and_eq_right_iff_imp.mpr fun h => by simpa [of_decide_eq_true h] using hi

theorem bit_bitAt (x : Bool) {i : Nat} (hi : i < 8) (k : Nat) : bit (bitAt x k) i = (x && decide (i = k)) := by
  cases x with
  | false => exact BitVec.getLsbD_zero
  | true => exact bit_one_shiftLeft hi k

theorem bit_resetBit (v : Byte) {i : Nat} (hi : i < 8) (b : Nat) :
    bit (resetBit v b) i = (decide (i ≠ b) && bit v i) := by
  rw [resetBit, bit_and, bit_not _ hi, bit_one_shiftLeft hi, Bool.and_comm, decide_not]

theorem bit_setBit (v : Byte) {i : Nat} (hi : i < 8) (b : Nat) :
    bit (setBit v b) i = (decide (i = b) || bit v i) := by
  rw [setBit, bit_or, bit_one_shiftLeft hi, Bool.or_comm]

/-! The one-bit operations bit by bit: each is a shift by one place with some bit entering (R270). -/

section
variable (v : Byte) (x : Bool)

theorem bit_shiftLeft {i : Nat} (hi : i < 8) (k : Nat) : bit (v <<< k) i = (!decide (i < k) && bit v (i - k)) := by
  rw [bit, BitVec.getLsbD_shiftLeft, decide_eq_true hi, Bool.true_and, bit]

theorem bit_shiftRight (k i : Nat) : bit (v >>> k) i = bit v (k + i) := BitVec.getLsbD_ushiftRight ..

theorem bit_of_ge {i : Nat} (hi : 8 ≤ i) : bit v i = false := BitVec.getLsbD_of_ge v i hi

/-- A shift left with `x` entering at bit 0. -/
theorem shiftLeft_entering_bits :
    bit (v <<< 1 ||| bitAt x 0) 0 = x ∧ ∀ i < 7, bit (v <<< 1 ||| bitAt x 0) (i + 1) = bit v i := by
  refine ⟨?_, fun i hi => ?_⟩
  · simp [bit_or, bit_shiftLeft, bit_bitAt]
  · simp [bit_or, bit_shiftLeft, bit_bitAt, Nat.succ_lt_succ hi]

/-- A shift right with `x` entering at bit 7. -/
theorem shiftRight_entering_bits :
    bit (v >>> 1 ||| bitAt x 7) 7 = x ∧ ∀ i < 7, bit (v >>> 1 ||| bitAt x 7) i = bit v (i + 1) := by
  refine ⟨?_, fun i hi => ?_⟩
  · simp [bit_or, bit_shiftRight, bit_bitAt, bit_of_ge]
  · simp [bit_or, bit_shiftRight, bit_bitAt, Nat.lt_succ_of_lt hi, hi.ne, Nat.add_comm]

/-- The mask of `SRA` keeps the sign bit alone. -/
theorem and_0x80_eq_bitAt : v &&& 0x80 = bitAt (bit v 7) 7 := by
  revert v
  decide

/-- The two nibbles change places. -/
theorem bit_swap {i : Nat} (hi : i < 8) : bit (v <<< 4 ||| v >>> 4) i = bit v ((i + 4) % 8) := by
  rw [bit_or, bit_shiftLeft v hi, bit_shiftRight]
  by_cases hlow : i < 4
  · have hmod : (i + 4) % 8 = 4 + i := by omega
    simp [hlow, hmod]
  · have hmod : (i + 4) % 8 = i - 4 := by omega
    have hhigh : 8 ≤ 4 + i := by omega
    simp [hlow, hmod, bit_of_ge v hhigh]

end

/-- `rot` moves the bits as R270 says: `RLC` and `RRC` let the bit that leaves enter, `RL` and `RR` the carry, `SLA` and
`SRL` a zero, `SRA` the sign. -/
theorem rot_bits (op : RotOp) (v : Byte) (cin : Bool) : RotatedBits op v cin (rot op v cin).1 := by
  cases op with
  | rlc =>
    obtain ⟨hzero, hsucc⟩ := shiftLeft_entering_bits v (bit v 7)
    intro i hi
    cases i with
    | zero => exact hzero
    | succ j => exact (hsucc j (Nat.lt_of_succ_lt_succ hi)).trans (congrArg (bit v) (by omega))
  | rrc =>
    obtain ⟨hseven, hbelow⟩ := shiftRight_entering_bits v (bit v 0)
    intro i hi
    obtain hi | rfl := Nat.lt_succ_iff_lt_or_eq.mp hi
    · exact (hbelow i hi).trans (congrArg (bit v) (by omega))
    · exact hseven
  | rl => exact shiftLeft_entering_bits v cin
  | rr => exact shiftRight_entering_bits v cin
  | sla => simpa [RotatedBits, rot, bitAt] using shiftLeft_entering_bits v false
  | sra =>
    simp only [rot, and_0x80_eq_bitAt]
    exact shiftRight_entering_bits v (bit v 7)
  | swap => exact fun i hi => bit_swap v hi
  | srl => simpa [RotatedBits, rot, bitAt] using shiftRight_entering_bits v false

theorem rot_carry (op : RotOp) (v : Byte) (cin : Bool) : (rot op v cin).2 = rotCarry op v := by
  cases op <;> rfl

theorem rotFlags_rot (op : RotOp) (v : Byte) (cin : Bool) :
    rotFlags (rot op v cin) = ⟨decide ((rot op v cin).1 = 0), false, false, rotCarry op v⟩ := by
  rw [rotFlags, rot_carry]

/-- An instruction that runs `rotA` moves the bits of `A` by its operation and clears all flags but the carry. -/
theorem ends_of_rotA {i : Instr} {op : RotOp} {s : State} (h : exec i s = rotA op s) :
    ∃ v, RotatedBits op s.cpu.a s.cpu.f.c v ∧
      Ends i s 1 ((s.setReg .a v).setFlags ⟨false, false, false, rotCarry op s.cpu.a⟩) := by
  refine ⟨_, rot_bits op s.cpu.a s.cpu.f.c, ?_⟩
  rw [ends_iff, h, rotA, rotAFlags, rot_carry]

/-- Settles O20: the four rows run `rotA` at their operation. -/
theorem accumulatorRotates : Obligations.AccumulatorRotates :=
  fun _ => ⟨⟨rfl, ends_of_rotA rfl⟩, ⟨rfl, ends_of_rotA rfl⟩, ⟨rfl, ends_of_rotA rfl⟩, ⟨rfl, ends_of_rotA rfl⟩⟩

/-- Settles O21: the rows run `rotOf` and `rotAt`, whose byte and carry are those of `rot`. -/
theorem extendedRotatesAndShifts : Obligations.ExtendedRotatesAndShifts := by
  intro s op
  constructor
  case left =>
    refine fun r => ⟨encode_rotReg op r, _, rot_bits op (s.reg r) s.cpu.f.c, ?_⟩
    rw [ends_iff, exec_rotReg, rotOf, rotFlags_rot]
  case right =>
    refine ⟨encode_rotAtHL op, _, rot_bits op (memRead s s.hl) s.cpu.f.c, ?_⟩
    rw [ends_iff, exec_rotAtHL, rotAt, rotFlags_rot]

/-- Settles O22: the register rows and the `(HL)` rows run `bitFlags`, `resetBit` and `setBit` on their byte. -/
theorem bitInstructions : Obligations.BitInstructions := by
  intro s b
  refine ⟨?bit, ?bitAtHL, ?res, ?resAtHL, ?set, ?setAtHL⟩
  case bit => exact fun r => ⟨encode_bitReg b r, ends_iff.mpr (exec_bitReg b r s)⟩
  case bitAtHL => exact ⟨encode_bitAtHL b, ends_iff.mpr (exec_bitAtHL b s)⟩
  case res =>
    exact fun r => ⟨encode_resReg b r, _, fun _ hi => bit_resetBit (s.reg r) hi b, ends_iff.mpr (exec_resReg b r s)⟩
  case resAtHL =>
    exact ⟨encode_resAtHL b, _, fun _ hi => bit_resetBit (memRead s s.hl) hi b, ends_iff.mpr (exec_resAtHL b s)⟩
  case set =>
    exact fun r => ⟨encode_setReg b r, _, fun _ hi => bit_setBit (s.reg r) hi b, ends_iff.mpr (exec_setReg b r s)⟩
  case setAtHL =>
    exact ⟨encode_setAtHL b, _, fun _ hi => bit_setBit (memRead s s.hl) hi b, ends_iff.mpr (exec_setAtHL b s)⟩

end Sys2Proof.Machine
end

section
/-! PROOF. Control transfers (spec/45_control.md R300 to R311). -/

namespace Sys2Proof.Machine

/-! The row families with a condition or vector field: the encoding by the field (R147, R151), and the shared operation
a row runs. -/

section
variable (cc : Cond) (n : Word) (e : Byte) (y : Fin 8)

theorem encode_jpCond : encode (.jpCond cc n) = [opByte (0xC2 + 8 * cc.code), loByte n, hiByte n] := by
  cases cc <;> rfl

theorem encode_jrCond : encode (.jrCond cc e) = [opByte (0x20 + 8 * cc.code), e] := by
  cases cc <;> rfl

theorem encode_callCond : encode (.callCond cc n) = [opByte (0xC4 + 8 * cc.code), loByte n, hiByte n] := by
  cases cc <;> rfl

theorem encode_retCond : encode (.retCond cc) = [opByte (0xC0 + 8 * cc.code)] := by
  cases cc <;> rfl

theorem encode_rst : encode (.rst y) = [opByte (0xC7 + 8 * y)] := by
  fin_cases y <;> rfl

variable (s : State)

theorem exec_jpCond : exec (.jpCond cc n) s = jumpIf cc n s := by
  cases cc <;> rfl

theorem exec_jrCond : exec (.jrCond cc e) s = relativeIf cc e s := by
  cases cc <;> rfl

theorem exec_callCond : exec (.callCond cc n) s = callIf cc n s := by
  cases cc <;> rfl

theorem exec_retCond : exec (.retCond cc) s = returnIf cc s := by
  cases cc <;> rfl

theorem exec_rst : exec (.rst y) s = finish 4 (callTo (BitVec.ofNat 16 (8 * y)) s) := by
  fin_cases y <;> rfl

end

/-- A row that chooses by its condition between a transfer and falling through ends accordingly (R312). -/
theorem ends_of_cond {i : Instr} {cc : Cond} {s t : State} {taken untaken : Nat}
    (h : exec i s = if s.cond cc then finish taken t else finish untaken s) :
    (s.cond cc = true → Ends i s taken t) ∧ (s.cond cc = false → Ends i s untaken s) := by
  constructor
  case left =>
    intro htrue
    rw [ends_iff, h, if_pos htrue]
  case right =>
    intro hfalse
    rw [ends_iff, h, if_neg (Bool.eq_false_iff.mp hfalse)]

section
variable (s : State)

theorem State.cond_nz_iff : s.cond .nz = true ↔ s.cpu.f.z = false := iff_of_eq (Bool.not_eq_true' s.cpu.f.z)

theorem State.cond_nc_iff : s.cond .nc = true ↔ s.cpu.f.c = false := iff_of_eq (Bool.not_eq_true' s.cpu.f.c)

/-- A relative jump goes to `pc` plus its signed offset modulo 65536 (R304). -/
theorem relativeTarget_toNat (e : Byte) :
    ((relativeTarget s e).toNat : Int) = ((s.cpu.pc.toNat : Int) + signed8 e) % 65536 :=
  add_sext16_toNat s.cpu.pc e

theorem callTo_eq_pushed (a : Word) : callTo a s = (pushed s s.cpu.pc).setPc a := by
  rw [callTo, push16_eq_pushed]

end

/-- Settles O23: the conditional families run `jumpIf` and `relativeIf`, and every relative row goes to
`relativeTarget`. -/
theorem jumps : Obligations.Jumps := by
  intro s n e
  refine ⟨⟨rfl, ends_iff.mpr rfl⟩, ?jpCond, ⟨rfl, ends_iff.mpr rfl⟩,
    ⟨relativeTarget s e, relativeTarget_toNat s e, rfl, ends_iff.mpr rfl, ?jrCond⟩,
    s.cond_nz_iff, Iff.rfl, s.cond_nc_iff, Iff.rfl⟩
  case jpCond => exact fun cc => ⟨encode_jpCond cc n, ends_of_cond (exec_jpCond cc n s)⟩
  case jrCond => exact fun cc => ⟨encode_jrCond cc e, ends_of_cond (exec_jrCond cc e s)⟩

/-- Settles O24: every row that calls runs `callTo`, which is a push of `pc` and a jump. -/
theorem callsPushTheLink : Obligations.CallsPushTheLink := by
  intro s n
  simp only [← callTo_eq_pushed]
  refine ⟨⟨rfl, ends_iff.mpr rfl⟩, ?callCond, ?rst⟩
  case callCond => exact fun cc => ⟨encode_callCond cc n, ends_of_cond (exec_callCond cc n s)⟩
  case rst => exact fun y => ⟨encode_rst y, ends_iff.mpr (exec_rst y s)⟩

/-- Settles O25: the rows run `returnTo`, which is the pop of `popped` and a jump, and `RETI` sets `ime` with it. -/
theorem returnsPopThePc : Obligations.ReturnsPopThePc := by
  intro s
  refine ⟨⟨rfl, ends_iff.mpr (exec_ret s)⟩, ?retCond, ⟨rfl, ends_iff.mpr rfl⟩⟩
  case retCond => exact fun cc => ⟨encode_retCond cc, ends_of_cond (exec_retCond cc s)⟩

end Sys2Proof.Machine
end

section
/-! PROOF. System instructions, the prefix row and the undefined opcodes (spec/46_system.md R321 to R327). -/

namespace Sys2Proof.Machine

/-! The prefix row (R326): the cells of the extended table follow the fields of their byte (R142, R144, R149), so the
decoder's table and `executeExtended` name the same row. -/

/-- The extended instruction of the fields `x = op[7:6]`, `y = op[5:3]`, `z = op[2:0]` (R142). -/
def extInstrOfFields (op : Byte) : Instr :=
  let x := op.toNat / 64
  let y := op.toNat / 8
  match fieldReg (op.toNat % 8) with
  | some r =>
    if x = 0 then .rotReg (fieldRot (y % 8)) r
    else if x = 1 then .bitReg (Fin.ofNat 8 y) r
    else if x = 2 then .resReg (Fin.ofNat 8 y) r
    else .setReg (Fin.ofNat 8 y) r
  | none =>
    if x = 0 then .rotAtHL (fieldRot (y % 8))
    else if x = 1 then .bitAtHL (Fin.ofNat 8 y)
    else if x = 2 then .resAtHL (Fin.ofNat 8 y)
    else .setAtHL (Fin.ofNat 8 y)

theorem extInstr_eq_extInstrOfFields (op : Byte) : extInstr op = extInstrOfFields op := by
  revert op
  decide

theorem exec_extInstrOfFields (op : Byte) (s : State) : exec (extInstrOfFields op) s = executeExtended op s := by
  unfold extInstrOfFields executeExtended
  cases fieldReg (op.toNat % 8) with
  | some r =>
    dsimp only
    split_ifs
    · exact exec_rotReg _ r s
    · exact exec_bitReg _ r s
    · exact exec_resReg _ r s
    · exact exec_setReg _ r s
  | none =>
    dsimp only
    split_ifs
    · exact exec_rotAtHL _ s
    · exact exec_bitAtHL _ s
    · exact exec_resAtHL _ s
    · exact exec_setAtHL _ s

/-- The extended table read by its cells and by its fields is the same table (R164). -/
theorem exec_extInstr (op : Byte) (s : State) : exec (extInstr op) s = executeExtended op s := by
  rw [extInstr_eq_extInstrOfFields, exec_extInstrOfFields]

theorem exec_prefixCB (s : State) :
    exec .prefixCB s = exec (extInstr (memRead s s.cpu.pc)) (s.setPc (s.cpu.pc + 1)) :=
  (exec_extInstr _ _).symm

/-- An extended-table row answers a next state with the same `fatal`. -/
theorem executeExtended_next (op : Byte) (s : State) :
    ∃ t, executeExtended op s = .next t ∧ t.cpu.fatal = s.cpu.fatal := by
  obtain ⟨n, u, ho, _, hu⟩ := executeExtended_keepsControl op s
  exact ⟨_, ho, congrArg ControlState.fatal hu⟩

/-- Settles O29: the row runs the instruction of the byte at `pc`, and no extended row writes `fatal`. -/
theorem prefixRowRunsTheExtendedTable : Obligations.PrefixRowRunsTheExtendedTable := by
  intro s
  obtain ⟨t, ht, hfatal⟩ := executeExtended_next (memRead s s.cpu.pc) (s.setPc (s.cpu.pc + 1))
  have hext := (exec_extInstr _ _).trans ht
  exact ⟨rfl, t, (exec_prefixCB s).trans hext, hext, hfatal⟩

/-! The single rows (R321 to R325, R327). -/

/-- Settles O26: the three rows are a `finish` of cost 1 on the written-out CPU. -/
theorem nopDiEi : Obligations.NopDiEi :=
  fun _ => ⟨⟨rfl, ends_iff.mpr rfl⟩, ⟨rfl, ends_iff.mpr rfl⟩, ⟨rfl, ends_iff.mpr rfl⟩⟩

section
variable {s : State}

/-- The condition of the repeated fetch (R322). -/
theorem haltCpu_cond_iff :
    (s.params.haltBug && !s.cpu.ime && s.irq.pending) = true ↔
      s.params.haltBug = true ∧ s.cpu.ime = false ∧ s.irq.pending = true := by
  rw [Bool.and_eq_true, Bool.and_eq_true, Bool.not_eq_true', and_assoc]

theorem haltCpu_of_haltBug (h : s.params.haltBug = true ∧ s.cpu.ime = false ∧ s.irq.pending = true) :
    haltCpu s = finish 1 { s with cpu := { s.cpu with haltBug := true } } :=
  if_pos (haltCpu_cond_iff.mpr h)

theorem haltCpu_of_no_haltBug (h : s.params.haltBug = false ∨ s.cpu.ime = true ∨ s.irq.pending = false) :
    haltCpu s = finish 1 { s with cpu := { s.cpu with halted := true } } := by
  refine if_neg fun hcond => ?_
  obtain ⟨hparam, hime, hpending⟩ := haltCpu_cond_iff.mp hcond
  simp [hparam, hime, hpending] at h

theorem stopCpu_of_armed (h : s.cpu.speedArmed = true) :
    stopCpu s = finish 1 { s with cpu := { s.cpu with doubleSpeed := !s.cpu.doubleSpeed, speedArmed := false } } :=
  if_pos h

theorem stopCpu_of_not_armed (h : s.cpu.speedArmed = false) :
    stopCpu s = raiseFatal (.unimplementedLowPower s.cpu.fetchAddr) s :=
  if_neg (Bool.eq_false_iff.mp h)

/-! The boundary of a halted CPU (R343 steps 3 to 6). -/

theorem delayStep_of_imeDelay_eq_zero {c : Cpu} (h : c.imeDelay = 0) : delayStep c = c := if_pos h

theorem cpuStep_of_atBoundary (h : AtBoundary s) : cpuStep s = boundary s := by
  obtain ⟨hcyc, hstalled⟩ := h
  rw [cpuStep, if_neg (Nat.not_lt.mpr hcyc.le), if_neg (Bool.eq_false_iff.mp hstalled)]

theorem boundary_of_halted (hhalted : s.cpu.halted = true) (hdelay : s.cpu.imeDelay = 0) :
    boundary s =
      if s.irq.pending then serviceOrFetch { s with cpu := { s.cpu with halted := false } } else .next s := by
  unfold boundary
  rw [delayStep_of_imeDelay_eq_zero hdelay]
  exact if_pos hhalted

theorem serviceOrFetch_of_service (hime : s.cpu.ime = true) (hpending : s.irq.pending = true) :
    serviceOrFetch s = .next (serviceInterrupt s) :=
  if_pos (Bool.and_eq_true_iff.mpr ⟨hime, hpending⟩)

theorem serviceOrFetch_of_ime_off (hime : s.cpu.ime = false) : serviceOrFetch s = fetchExecute s :=
  if_neg (by rw [hime]; exact Bool.false_ne_true)

end

/-- Settles O27: `HALT` by the condition of the repeated fetch, and the boundary by what is pending and by `ime`. -/
theorem haltSleepsAndWakes : Obligations.HaltSleepsAndWakes := by
  intro s
  refine ⟨⟨rfl, fun h => ends_iff.mpr (haltCpu_of_haltBug h), fun h => ends_iff.mpr (haltCpu_of_no_haltBug h)⟩,
    fun hboundary hhalted hdelay => ?_⟩
  rw [cpuStep_of_atBoundary hboundary, boundary_of_halted hhalted hdelay]
  refine ⟨?asleep, ?fetch, ?service⟩
  case asleep => exact fun hpending => if_neg (Bool.eq_false_iff.mp hpending)
  case fetch => exact fun hpending hime => (if_pos hpending).trans (serviceOrFetch_of_ime_off hime)
  case service => exact fun hpending hime => (if_pos hpending).trans (serviceOrFetch_of_service hime hpending)

/-- Settles O28: `STOP` by the armed switch; each of the eleven rows raises its own opcode. -/
theorem stopAndUndefinedOpcodes : Obligations.StopAndUndefinedOpcodes := by
  intro s
  refine ⟨fun pad => ⟨rfl, fun h => ends_iff.mpr (stopCpu_of_armed h), stopCpu_of_not_armed⟩, ?undefined⟩
  case undefined =>
    intro e he
    fin_cases he <;> exact ⟨rfl, rfl⟩

end Sys2Proof.Machine
end

section
/-! PROOF. Encoding and decoding are inverse to each other (spec/30_encoding.md R140, R141, R163, R164). -/

namespace Sys2Proof

open Sys2Proof.Machine

/-- A row with a 16-bit immediate stores it low byte first (R141, R152). -/
theorem decode_imm16 {op : Byte} {f : Word → Instr} (h : baseEntry op = .imm16 f) (n : Word) (rest : List Byte) :
    decode (op :: loByte n :: hiByte n :: rest) = .ok (f n, rest) := by
  simp only [decode, h, joinBytes_hi_lo]

/-- Settles O2: each row stands in the base or the extended table under its own bytes, and the halves of a 16-bit
immediate are joined again. -/
theorem decodeOfEncodeIsTheInstruction : Obligations.DecodeOfEncodeIsTheInstruction := by
  intro i rest hwf
  cases i with
  | ld_BC_n16 n | ld_DE_n16 n | ld_HL_n16 n | ld_SP_n16 n | ld_atN16_SP n | ld_atN16_A n | ld_A_atN16 n | jp_n16 n
  | jp_NZ_n16 n | jp_Z_n16 n | jp_NC_n16 n | jp_C_n16 n | call_n16 n | call_NZ_n16 n | call_Z_n16 n | call_NC_n16 n
  | call_C_n16 n => exact decode_imm16 rfl n rest
  | prefixCB => cases hwf
  | _ => rfl

/-! The bytes of a cell, read off its opcode and its immediate. -/

/-- The row of the opcode table a cell holds, for the immediate `n`, of which a one-byte immediate takes the low byte. -/
def Entry.row (n : Word) : Entry → Instr
  | .whole i => i
  | .imm8 f => f (loByte n)
  | .imm16 f => f n
  | .extended => .prefixCB

/-- The bytes of that immediate, low byte first (R141). -/
def Entry.operandBytes (n : Word) : Entry → List Byte
  | .whole _ => []
  | .imm8 _ => [loByte n]
  | .imm16 _ => [loByte n, hiByte n]
  | .extended => []

/-- Every cell of the base table holds a row whose bytes begin with the cell's own opcode (R163). -/
theorem encode_row_baseEntry (op : Byte) (n : Word) :
    encode ((baseEntry op).row n) = op :: (baseEntry op).operandBytes n := by
  obtain ⟨v, hv, rfl⟩ : ∃ v < 256, op = BitVec.ofNat 8 v := ⟨op.toNat, op.isLt, by simp⟩
  interval_cases v <;> rfl

/-- Every cell of the extended table holds the row of its own second byte (R164). -/
theorem encode_extInstr (op : Byte) : encode (extInstr op) = [0xCB, op] := by
  revert op
  decide

/-- What a byte string that decodes looks like: the opcode, the bytes of its cell's immediate, and the bytes left over; or
the 0xCB byte and the byte after it (R141). -/
theorem decode_cons_cases {op : Byte} {tail rest : List Byte} {i : Instr} (h : decode (op :: tail) = .ok (i, rest)) :
    (∃ n, i = (baseEntry op).row n ∧ tail = (baseEntry op).operandBytes n ++ rest) ∨
      (baseEntry op = .extended ∧ ∃ b, i = extInstr b ∧ tail = b :: rest) := by
  cases he : baseEntry op with
  | whole j =>
    obtain ⟨rfl, rfl⟩ : j = i ∧ tail = rest := by simpa [decode, he] using h
    exact .inl ⟨0, rfl, rfl⟩
  | imm8 f =>
    cases tail with
    | nil => simp [decode, he] at h
    | cons n tail =>
      obtain ⟨rfl, rfl⟩ : f n = i ∧ tail = rest := by simpa [decode, he] using h
      exact .inl ⟨joinBytes 0 n, by simp [Entry.row], by simp [Entry.operandBytes]⟩
  | imm16 f =>
    match tail with
    | [] => simp [decode, he] at h
    | [_] => simp [decode, he] at h
    | lo :: hi :: tail =>
      obtain ⟨rfl, rfl⟩ : f (joinBytes hi lo) = i ∧ tail = rest := by simpa [decode, he] using h
      exact .inl ⟨joinBytes hi lo, rfl, by simp [Entry.operandBytes]⟩
  | extended =>
    cases tail with
    | nil =>
      obtain ⟨rfl, rfl⟩ : .prefixCB = i ∧ [] = rest := by simpa [decode, he] using h
      exact .inl ⟨0, rfl, rfl⟩
    | cons b tail =>
      obtain ⟨rfl, rfl⟩ : extInstr b = i ∧ tail = rest := by simpa [decode, he] using h
      exact .inr ⟨rfl, b, rfl, rfl⟩

/-- Settles O3: the cell's row encodes to the bytes read, and an extended row to 0xCB and its own byte. -/
theorem encodeOfDecodedIsTheBytes : Obligations.EncodeOfDecodedIsTheBytes := by
  intro bs i rest h
  cases bs with
  | nil => cases h
  | cons op tail =>
    obtain ⟨n, rfl, rfl⟩ | ⟨he, b, rfl, rfl⟩ := decode_cons_cases h
    · rw [encode_row_baseEntry, List.cons_append]
    · have hop : encode .prefixCB = [op] := by
        simpa only [he, Entry.row, Entry.operandBytes] using encode_row_baseEntry op 0
      rw [encode_extInstr, ← List.singleton_inj.mp hop]
      rfl

/-- The instruction of three fetched bytes begins with the first of them and is as long as that byte says (R140). -/
theorem encode_decodeWindow (b0 b1 b2 : Byte) :
    ∃ tail, encode (decodeWindow b0 b1 b2) = b0 :: tail ∧ tail.length + 1 = instrLength b0 := by
  have hrow := encode_row_baseEntry b0
  unfold decodeWindow instrLength
  cases he : baseEntry b0 with
  | whole i => exact ⟨[], by simpa [he, Entry.row, Entry.operandBytes] using hrow 0, rfl⟩
  | imm8 f => exact ⟨[b1], by simpa [he, Entry.row, Entry.operandBytes] using hrow (joinBytes 0 b1), rfl⟩
  | imm16 f => exact ⟨[b1, b2], by simpa [he, Entry.row, Entry.operandBytes] using hrow (joinBytes b2 b1), rfl⟩
  | extended =>
    have hop : encode .prefixCB = [b0] := by simpa [he, Entry.row, Entry.operandBytes] using hrow 0
    exact ⟨[b1], by rw [encode_extInstr, ← List.singleton_inj.mp hop], rfl⟩

/-- The two decoders agree on three bytes. -/
theorem eq_decodeWindow {b0 b1 b2 : Byte} {i : Instr} {rest : List Byte} (h : decode [b0, b1, b2] = .ok (i, rest)) :
    i = decodeWindow b0 b1 b2 := by
  obtain ⟨tail, ht⟩ := decode_window b0 b1 b2 []
  rw [h] at ht
  exact congrArg Prod.fst (Except.ok.inj ht)

end Sys2Proof
end

section
/-! PROOF. The CPU's share of a cycle and the step around it (spec/60_exceptions.md R340 to R353;
spec/70_reset_and_hazards.md R586, R588). -/

namespace Sys2Proof.Machine

/-! Every outcome is a next state, fatal states apart. -/

/-- Settles O30: every row answers a next state. -/
theorem noInstructionStops : Obligations.NoInstructionStops := by
  intro i s
  obtain ⟨t, ht, _⟩ := exec_viaBus i s
  exact ⟨t, ht⟩

/-- The rest of a step after the CPU's share, which a fatal condition abandons (R341, R586, R588). -/
theorem step_of_cpuStep {s t : State} (hlive : s.cpu.fatal = none) (h : cpuStep (applyInput s) = .next t) :
    step s = .next (if t.cpu.fatal.isSome = true then t else frameBoundary (peripherals t)) := by
  rw [step_live hlive, liveStep, machineCycle, h]
  dsimp only
  split
  · next hfatal => rw [frameBoundary_fatal hfatal]
  · rfl

/-- Settles O31: a live state's CPU step always answers, and a fatal state stops with its reason. -/
theorem onlyAFatalStateStops : Obligations.OnlyAFatalStateStops := by
  intro s
  cases hfatal : s.cpu.fatal with
  | none =>
    obtain ⟨t, ht, _⟩ := cpuStep_viaBus (applyInput s)
    rw [step_of_cpuStep hfatal ht]
    exact ⟨iff_of_true ⟨_, rfl⟩ rfl, fun r => iff_of_false nofun nofun⟩
  | some r =>
    rw [step_fatal hfatal]
    exact ⟨iff_of_false (fun ⟨_, h⟩ => nomatch h) nofun, fun r' => by simp⟩

/-! The instruction boundary (R343 steps 3 to 6). -/

/-- The delayed enable counts down and gives `ime` as step 5 sees it. -/
theorem delayStep_eq (s : State) :
    delayStep s.cpu = { s.cpu with imeDelay := s.cpu.imeDelay - 1, ime := imeSeen s } := by
  unfold delayStep imeSeen
  split
  · next h =>
    have hkeep : s.cpu = { s.cpu with imeDelay := 0 } := by rw [← h]
    simpa [h] using hkeep
  · next h =>
    by_cases h1 : s.cpu.imeDelay = 1 <;> simp [h1]

section
variable {s : State}

theorem boundary_of_not_halted (h : s.cpu.halted = false) :
    boundary s =
      serviceOrFetch { s with cpu := { s.cpu with imeDelay := s.cpu.imeDelay - 1, ime := imeSeen s } } := by
  unfold boundary
  rw [delayStep_eq]
  exact if_neg (Bool.eq_false_iff.mp h)

theorem serviceOrFetch_of_no_service (h : s.cpu.ime = true → s.irq.pending = false) :
    serviceOrFetch s = fetchExecute s := by
  refine if_neg fun hcond => ?_
  obtain ⟨hime, hpending⟩ := Bool.and_eq_true_iff.mp hcond
  exact absurd (h hime) (by simp [hpending])

/-- The instruction fetched begins with the byte at `pc`, and `pc` goes past its bytes, one less far after a repeated
fetch (R322, R343 step 6). -/
theorem fetched_spec (s : State) :
    ∃ tail, encode (fetched s) = memRead s s.cpu.pc :: tail ∧
      pcAfterFetch s =
        s.cpu.pc + BitVec.ofNat 16 ((encode (fetched s)).length - if s.cpu.haltBug then 1 else 0) := by
  have hbyte : codeByte s 0 = memRead s s.cpu.pc := by simp [codeByte]
  unfold fetched pcAfterFetch
  cases hbug : s.cpu.haltBug with
  | false =>
    obtain ⟨tail, hencode, hlength⟩ := encode_decodeWindow (codeByte s 0) (codeByte s 1) (codeByte s 2)
    refine ⟨tail, hbyte ▸ hencode, ?_⟩
    simp [hencode, hlength]
  | true =>
    obtain ⟨tail, hencode, hlength⟩ := encode_decodeWindow (codeByte s 0) (codeByte s 0) (codeByte s 1)
    refine ⟨tail, hbyte ▸ hencode, ?_⟩
    simp [hencode, ← hlength, ← BitVec.add_assoc, BitVec.ofNat_add]

theorem fetchExecute_eq_exec {i : Instr} (h : fetched s = i) :
    fetchExecute s = exec i { s with cpu := { s.cpu with
      pc := s.cpu.pc + BitVec.ofNat 16 ((encode i).length - if s.cpu.haltBug then 1 else 0)
      haltBug := false
      fetchAddr := s.cpu.pc } } := by
  obtain ⟨_, _, hpc⟩ := fetched_spec s
  rw [fetchExecute, hpc, h]

theorem fetched_of_decode {i : Instr} {rest : List Byte} (hbug : s.cpu.haltBug = false)
    (h : decode [memRead s s.cpu.pc, memRead s (s.cpu.pc + 1), memRead s (s.cpu.pc + 2)] = .ok (i, rest)) :
    fetched s = i := by
  rw [eq_decodeWindow h, fetched, hbug]
  simp [codeByte]

theorem fetched_of_decode_repeated {i : Instr} {rest : List Byte} (hbug : s.cpu.haltBug = true)
    (h : decode [memRead s s.cpu.pc, memRead s s.cpu.pc, memRead s (s.cpu.pc + 1)] = .ok (i, rest)) :
    fetched s = i := by
  rw [eq_decodeWindow h, fetched, hbug]
  simp [codeByte]

end

/-- Settles O42: with no interrupt to serve the boundary fetches, and what is fetched is what the bytes decode to. -/
theorem stepRunsTheDecodedInstruction : Obligations.StepRunsTheDecodedInstruction := by
  intro s0 i rest s hlive hboundary hhalted hbug hidle hdecode
  let u : State := { s with cpu := { s.cpu with imeDelay := s.cpu.imeDelay - 1, ime := imeSeen s } }
  have hread : ∀ a, memRead u a = memRead s a := memRead_cpu s _ rfl rfl
  have hfetch : fetched u = i := fetched_of_decode hbug (by simpa only [hread] using hdecode)
  have hstep : cpuStep s = exec i { s with cpu := { s.cpu with
      pc := s.cpu.pc + BitVec.ofNat 16 (encode i).length
      fetchAddr := s.cpu.pc
      imeDelay := s.cpu.imeDelay - 1
      ime := imeSeen s } } := by
    calc cpuStep s
        = boundary s := cpuStep_of_atBoundary hboundary
      _ = serviceOrFetch u := boundary_of_not_halted hhalted
      _ = fetchExecute u := serviceOrFetch_of_no_service hidle
      _ = _ := by
        rw [fetchExecute_eq_exec hfetch]
        simp [u, hbug]
  obtain ⟨t, ht, _⟩ := exec_viaBus i { s with cpu := { s.cpu with
    pc := s.cpu.pc + BitVec.ofNat 16 (encode i).length
    fetchAddr := s.cpu.pc
    imeDelay := s.cpu.imeDelay - 1
    ime := imeSeen s } }
  exact ⟨t, ht, step_of_cpuStep hlive (hstep.trans ht)⟩

/-- Settles O43: before the boundary by the countdown and the stall; at it by the delay, and by the repeated fetch. -/
theorem otherCasesOfTheCpuCycle : Obligations.OtherCasesOfTheCpuCycle := by
  intro s
  refine ⟨fun hcyc => if_pos hcyc, ?stalled, fun hboundary hhalted => ?_⟩
  case stalled =>
    rintro hcyc ⟨t, ht, hkind⟩
    have hstalled : s.dma.stalled = true := by simp [Dma.stalled, ht, hkind]
    rw [cpuStep, if_neg (by omega), if_pos hstalled]
  rw [cpuStep_of_atBoundary hboundary, boundary_of_not_halted hhalted]
  refine ⟨?two, ?served, ?matured, ?repeated⟩
  case two =>
    intro hdelay hime
    have hseen : imeSeen s = s.cpu.ime := by simp [imeSeen, hdelay]
    rw [hseen, hdelay]
    exact serviceOrFetch_of_ime_off hime
  case served =>
    intro hdelay hpending
    have hseen : imeSeen s = true := by simp [imeSeen, hdelay]
    rw [hseen, hdelay]
    exact serviceOrFetch_of_service rfl hpending
  case matured =>
    intro hdelay hpending
    have hseen : imeSeen s = true := by simp [imeSeen, hdelay]
    rw [hseen, hdelay]
    exact serviceOrFetch_of_no_service fun _ => hpending
  case repeated =>
    intro i rest hbug hdelay hidle hdecode
    have hseen : imeSeen s = s.cpu.ime := by simp [imeSeen, hdelay]
    have hkeep : { s with cpu := { s.cpu with imeDelay := s.cpu.imeDelay - 1, ime := imeSeen s } } = s := by
      rw [hseen, hdelay, Nat.zero_sub, ← hdelay]
    rw [hkeep, serviceOrFetch_of_no_service hidle, fetchExecute_eq_exec (fetched_of_decode_repeated hbug hdecode), hbug]
    rfl

end Sys2Proof.Machine
end

section
/-! PROOF. The interrupt controller and taking an interrupt (spec/60_exceptions.md R346 to R352). -/

namespace Sys2Proof.Machine

/-- A byte is not zero when some bit is set. -/
theorem ne_zero_iff_exists_bit (v : Byte) : v ≠ 0 ↔ ∃ i < 8, bit v i = true := by
  revert v
  decide

theorem lowestBit_eq_some_iff {m : Byte} {k : Nat} :
    lowestBit m = some k ↔ k < 8 ∧ bit m k = true ∧ ∀ j < k, bit m j = false := by
  rw [lowestBit, List.find?_range_eq_some]
  simp [List.mem_range, and_left_comm]

theorem Irq.pending_iff (q : Irq) : q.pending = true ↔ ∃ i < 8, bit q.ie i = true ∧ bit q.flags i = true := by
  rw [Irq.pending, bne_iff_ne, ne_zero_iff_exists_bit]
  simp only [Irq.masked, bit_and, Bool.and_eq_true]

theorem Irq.pop_of_not_pending {q : Irq} (h : q.pending = false) : q.pop = (none, q) := by
  have hzero : q.masked = 0 := by simpa [Irq.pending] using h
  exact q.pop_none (by rw [hzero]; rfl)

/-- With something pending the pop takes the lowest bit set in both masks (R348). -/
theorem Irq.pop_of_pending {q : Irq} (h : q.pending = true) :
    ∃ k < 8, q.pop = (some k, { q with flags := q.flags &&& ~~~(1#8 <<< k) }) ∧ bit q.ie k = true ∧
      bit q.flags k = true ∧ ∀ j < k, bit q.ie j = true → bit q.flags j = false := by
  cases hk : lowestBit q.masked with
  | none =>
    obtain ⟨i, hi, hie, hflag⟩ := q.pending_iff.mp h
    have hbit := List.find?_eq_none.mp hk i (List.mem_range.mpr hi)
    exact absurd (by rw [Irq.masked, bit_and, hie, hflag]; rfl) hbit
  | some k =>
    obtain ⟨hlt, hbit, hlow⟩ := lowestBit_eq_some_iff.mp hk
    simp only [Irq.masked, bit_and, Bool.and_eq_true, Bool.and_eq_false_imp] at hbit hlow
    exact ⟨k, hlt, by rw [Irq.pop, hk], hbit.1, hbit.2, hlow⟩

/-- Settles O44: bit by bit, by the masks of `request`, `pending` and `pop`. -/
theorem interruptControllerBits : Obligations.InterruptControllerBits := by
  intro q
  refine ⟨fun k _ => ⟨rfl, fun i hi => ?request⟩, q.pending_iff, Irq.pop_of_not_pending, fun hpending => ?pop⟩
  case request => rw [Irq.request, bit_or, bit_one_shiftLeft hi]
  case pop =>
    obtain ⟨k, hk, hpop, hie, hflag, hlow⟩ := Irq.pop_of_pending hpending
    refine ⟨k, hk, _, hpop, hie, hflag, hlow, rfl, fun i hi => ?_⟩
    rw [bit_and, bit_not _ hi, bit_one_shiftLeft hi, decide_not]

/-! Taking an interrupt (R352). -/

section
variable {s : State}

/-- With something pending a boundary wakes a halted CPU and goes on as one that was not halted (R343 steps 3 to 5). -/
theorem boundary_of_pending (hpending : s.irq.pending = true) :
    boundary s =
      serviceOrFetch { s with cpu := { s.cpu with
        imeDelay := s.cpu.imeDelay - 1, ime := imeSeen s, halted := false } } := by
  cases hhalted : s.cpu.halted with
  | false =>
    rw [boundary_of_not_halted hhalted]
    simp [hhalted]
  | true =>
    unfold boundary
    rw [delayStep_eq]
    simp [hhalted, hpending]

theorem serviceOrFetch_of_pop {k : Nat} {q : Irq} (hime : s.cpu.ime = true) (hpending : s.irq.pending = true)
    (hpop : s.irq.pop = (some k, q)) : serviceOrFetch s = .next (enterHandler { s with irq := q } k) := by
  rw [serviceOrFetch_of_service hime hpending, serviceInterrupt, hpop]

/-- Entering a handler pushes `pc` with interrupts off and goes to the handler (R352). -/
theorem enterHandler_eq_pushed (k : Nat) :
    enterHandler s k =
      { pushed { s with cpu := { s.cpu with ime := false, imeDelay := 0 } } s.cpu.pc with
        cpu := { (pushed { s with cpu := { s.cpu with ime := false, imeDelay := 0 } } s.cpu.pc).cpu with
          pc := handlerAddress k, cyc := 4 } } := by
  simp only [enterHandler, push16_eq_pushed]
  rfl

/-- At a storage stack a push leaves the two bytes of the word below the old `sp` (R16). -/
theorem memRead_pushed (harrays : ArraysOk s) (hstack : StackOk s) (v : Word) :
    memRead (pushed s v) (s.cpu.sp - 1) = hiByte v ∧ memRead (pushed s v) (s.cpu.sp - 2) = loByte v := by
  obtain ⟨hhi, hlo, hne⟩ := hstack
  rw [← push16_eq_pushed, memRead_push16 harrays hhi hlo, memRead_push16 harrays hhi hlo, if_neg hne, if_pos rfl,
    if_pos rfl]
  exact ⟨rfl, rfl⟩

end

/-- Settles O45: the pop names the bit, and the handler is entered from the state with `halted` and the bit cleared. -/
theorem interruptEntry : Obligations.InterruptEntry := by
  intro s hboundary hime hpending
  obtain ⟨k, hk, hpop, hie, hflag, hlow⟩ := Irq.pop_of_pending hpending
  let u : State := { s with
    irq := { s.irq with flags := s.irq.flags &&& ~~~(1#8 <<< k) }
    cpu := { s.cpu with ime := false, imeDelay := 0, halted := false } }
  have hpushed : push16 u s.cpu.pc = pushed u s.cpu.pc := push16_eq_pushed u s.cpu.pc
  refine ⟨k, hk, _, hie, hflag, hlow, ?step, rfl, ?sp, ?flags, ?regs, fun harrays hstack => ?saved⟩
  case step =>
    calc cpuStep s
        = serviceOrFetch { s with cpu := { s.cpu with
            imeDelay := s.cpu.imeDelay - 1, ime := imeSeen s, halted := false } } := by
          rw [cpuStep_of_atBoundary hboundary, boundary_of_pending hpending]
      _ = .next (enterHandler { u with cpu := { s.cpu with
            imeDelay := s.cpu.imeDelay - 1, ime := imeSeen s, halted := false } } k) :=
          serviceOrFetch_of_pop hime hpending hpop
      _ = _ := congrArg Host.Outcome.next (enterHandler_eq_pushed k)
  case sp => exact hpushed ▸ push16_sp u s.cpu.pc
  case flags => exact hpushed ▸ push16_flags u s.cpu.pc
  case regs =>
    intro r
    have hreg : (pushed u s.cpu.pc).reg r = u.reg r := hpushed ▸ push16_reg u s.cpu.pc r
    cases r <;> exact hreg
  case saved =>
    obtain ⟨hhi, hlo⟩ := memRead_pushed (s := u) harrays hstack s.cpu.pc
    exact ⟨(memRead_cpu _ _ rfl rfl _).trans hhi, (memRead_cpu _ _ rfl rfl _).trans hlo⟩

end Sys2Proof.Machine
end

section
/-! PROOF. A step that raises a fatal condition (spec/60_exceptions.md R341, R342, R353). -/

namespace Sys2Proof.Machine

/-- The two kinds of row that raise, with the reason each records (R342). -/
def RaisedBy (i : Instr) (a : Word) (r : FatalReason) : Prop :=
  (∃ pad, i = .stop pad ∧ r = .unimplementedLowPower a) ∨
    ∃ op, (op, i) ∈ Instr.undefinedOpcodes ∧ r = .undefinedOpcode op a

/-- An instruction that raises from a live state records its reason and changes nothing else (R341). -/
theorem exec_raises {i : Instr} {s t : State} {r : FatalReason} (h : exec i s = .next t)
    (hlive : s.cpu.fatal = none) (hfatal : t.cpu.fatal = some r) :
    RaisedBy i s.cpu.fetchAddr r ∧ t = { s with cpu := { s.cpu with fatal := some r } } := by
  have hnot : t.cpu.fatal ≠ s.cpu.fatal := by rw [hlive, hfatal]; nofun
  have hcase := exec_case i s
  rw [h] at hcase
  generalize ho : Host.Outcome.next t = o at hcase
  cases hcase with
  | ordinary hkeeps =>
    obtain ⟨n, u, rfl, _, hu⟩ := hkeeps
    obtain rfl := finish_spec ho.symm
    exact absurd (congrArg ControlState.fatal hu) hnot
  | di | ei | reti =>
    obtain rfl := finish_spec ho.symm
    exact absurd rfl hnot
  | halt =>
    unfold haltCpu at ho
    split at ho <;> obtain rfl := finish_spec ho.symm <;> exact absurd rfl hnot
  | stop pad =>
    unfold stopCpu at ho
    split at ho
    · obtain rfl := finish_spec ho.symm
      exact absurd rfl hnot
    · obtain rfl := raiseFatal_spec ho.symm
      obtain rfl := Option.some.inj hfatal
      exact ⟨.inl ⟨pad, rfl, rfl⟩, rfl⟩
  | undefined op _ hmem =>
    obtain rfl := raiseFatal_spec ho.symm
    obtain rfl := Option.some.inj hfatal
    exact ⟨.inr ⟨op, hmem, rfl⟩, rfl⟩

/-- The rows of the undefined opcodes are one byte each, and the bytes are the eleven of R158. -/
theorem encode_undefinedOpcodes : ∀ e ∈ Instr.undefinedOpcodes, encode e.2 = [e.1] ∧
    e.1.toNat ∈ [0xD3, 0xDB, 0xDD, 0xE3, 0xE4, 0xEB, 0xEC, 0xED, 0xF4, 0xFC, 0xFD] := by
  decide

/-- What the reason says of the opcode byte `b` at the address `a` it was fetched from (R342). -/
def ReasonOf (b : Byte) (a : Word) (r : FatalReason) : Prop :=
  r = .unimplementedLowPower a ∧ b = 0x10 ∨
    r = .undefinedOpcode b a ∧ b.toNat ∈ [0xD3, 0xDB, 0xDD, 0xE3, 0xE4, 0xEB, 0xEC, 0xED, 0xF4, 0xFC, 0xFD]

theorem RaisedBy.reasonOf {i : Instr} {b : Byte} {tail : List Byte} {a : Word} {r : FatalReason}
    (h : RaisedBy i a r) (hencode : encode i = b :: tail) : ReasonOf b a r := by
  obtain ⟨pad, rfl, rfl⟩ | ⟨op, hmem, rfl⟩ := h
  · exact .inl ⟨rfl, (List.cons.inj hencode).1.symm⟩
  · obtain ⟨hbyte, hrange⟩ := encode_undefinedOpcodes _ hmem
    obtain rfl : op = b := (List.cons.inj (hbyte.symm.trans hencode)).1
    exact .inr ⟨rfl, hrange⟩

/-- `t` is `s` with a fatal condition raised by the byte at `pc`: only control state of the CPU, `pc` and `fetchAddr`
differ. -/
structure RaisedAtPc (s t : State) (r : FatalReason) : Prop where
  cpu : ∃ c : Cpu, t = { s with cpu := { s.cpu with
    pc := c.pc, ime := c.ime, imeDelay := c.imeDelay, halted := c.halted, haltBug := c.haltBug, fatal := some r
    fetchAddr := c.fetchAddr } }
  reason : ReasonOf (memRead s s.cpu.pc) s.cpu.pc r

theorem fetchExecute_raises {s t : State} {r : FatalReason} (h : fetchExecute s = .next t)
    (hlive : s.cpu.fatal = none) (hfatal : t.cpu.fatal = some r) : RaisedAtPc s t r := by
  unfold fetchExecute at h
  obtain ⟨hraised, rfl⟩ := exec_raises h hlive hfatal
  obtain ⟨tail, hencode, _⟩ := fetched_spec s
  exact ⟨⟨_, rfl⟩, hraised.reasonOf hencode⟩

theorem serviceInterrupt_fatal (s : State) : (serviceInterrupt s).cpu.fatal = s.cpu.fatal := by
  unfold serviceInterrupt
  split
  · exact push16_fatal _ _
  · rfl

theorem serviceOrFetch_raises {s t : State} {r : FatalReason} (h : serviceOrFetch s = .next t)
    (hlive : s.cpu.fatal = none) (hfatal : t.cpu.fatal = some r) : RaisedAtPc s t r := by
  unfold serviceOrFetch at h
  split at h
  · obtain rfl : serviceInterrupt s = t := by simpa using h
    rw [serviceInterrupt_fatal, hlive] at hfatal
    cases hfatal
  · exact fetchExecute_raises h hlive hfatal

/-- A change of `ime`, `ime_delay` and `halted` may be put in front. -/
theorem RaisedAtPc.before {s t : State} {r : FatalReason} {n : Nat} {b b' : Bool}
    (h : RaisedAtPc { s with cpu := { s.cpu with imeDelay := n, ime := b, halted := b' } } t r) : RaisedAtPc s t r := by
  obtain ⟨⟨c, rfl⟩, hreason⟩ := h
  exact ⟨⟨c, rfl⟩, memRead_cpu s _ rfl rfl s.cpu.pc ▸ hreason⟩

theorem boundary_raises {s t : State} {r : FatalReason} (h : boundary s = .next t)
    (hlive : s.cpu.fatal = none) (hfatal : t.cpu.fatal = some r) : RaisedAtPc s t r := by
  cases hpending : s.irq.pending with
  | true =>
    rw [boundary_of_pending hpending] at h
    exact (serviceOrFetch_raises h hlive hfatal).before
  | false =>
    cases hhalted : s.cpu.halted with
    | false =>
      rw [boundary_of_not_halted hhalted] at h
      exact (serviceOrFetch_raises h hlive hfatal).before
    | true =>
      unfold boundary at h
      rw [delayStep_eq] at h
      obtain rfl : _ = t := by simpa [hhalted, hpending] using h
      exact absurd (hlive.symm.trans hfatal) nofun

theorem cpuStep_raises {s t : State} {r : FatalReason} (h : cpuStep s = .next t) (hlive : s.cpu.fatal = none)
    (hfatal : t.cpu.fatal = some r) : RaisedAtPc s t r := by
  obtain ⟨_, rfl⟩ | ⟨_, _, rfl⟩ | ⟨_, _, hb⟩ := cpuStep_cases h
  · exact absurd (hlive.symm.trans hfatal) nofun
  · exact absurd (hlive.symm.trans hfatal) nofun
  · exact boundary_raises hb hlive hfatal

theorem frameBoundary_cpu (s : State) : (frameBoundary s).cpu = s.cpu := by
  obtain ⟨_, _, _, h⟩ := frameBoundary_frame s
  rw [h]

/-- Settles O46: a step that ends fatal is the CPU's share of it alone, which raised at `pc`. -/
theorem fatalAbandonsTheCycle : Obligations.FatalAbandonsTheCycle := by
  intro s t r hinputs h hfatal
  obtain ⟨hlive, u, hcycle, rfl⟩ := step_cases h
  rw [applyInput_nil hinputs] at hcycle
  rw [frameBoundary_cpu] at hfatal
  obtain ⟨v, hv, ⟨hsome, rfl⟩ | ⟨hnone, rfl⟩⟩ := machineCycle_cases hcycle
  · obtain ⟨⟨c, hu⟩, hreason⟩ := cpuStep_raises hv hlive hfatal
    rw [frameBoundary_fatal hsome]
    have hstop := step_fatal hfatal
    subst hu
    exact ⟨rfl, fun x => by cases x <;> rfl, rfl, rfl, hreason, hstop⟩
  · rw [(peripherals_frame v).1, hnone] at hfatal
    cases hfatal

end Sys2Proof.Machine
end

section
/-! PROOF. The timer's step, the DMA controller, and the invariant at reset (spec/61_timer.md R385 to R388;
spec/62_dma.md R396 to R405; spec/70_reset_and_hazards.md R570). -/

namespace Sys2Proof.Machine

/-- Settles O58: the empty image loads, with the default of `RESET_REGS`, as the reset state. -/
theorem resetMeetsTheInvariant : Obligations.ResetMeetsTheInvariant :=
  ⟨by decide, ⟨Nat.zero_le 2, Nat.zero_le 5, nofun⟩, videoOk_reset,
    ⟨rfl, fun row hrow => by rw [List.eq_of_mem_replicate hrow]; rfl, Nat.zero_lt_succ _⟩, soundOk_reset,
    cartOk_of_reset rfl rfl rfl, nofun, rfl⟩

/-! The timer. -/

/-- The selected bit is one of four, and falls once in four periods (R385). -/
theorem tacBit_spec (tac : BitVec 3) :
    (tacBit tac = 3 ∨ tacBit tac = 5 ∨ tacBit tac = 7 ∨ tacBit tac = 9) ∧
      2 ^ (tacBit tac + 1) = 4 * timerPeriod tac := by
  revert tac
  decide

/-- A bit above bit 1 falls in a step of 4 exactly when the sum is a multiple of twice its weight (R386). -/
theorem falls_iff {d : BitVec 16} (h : d.toNat % 4 = 0) {b : Nat} (hb : b = 3 ∨ b = 5 ∨ b = 7 ∨ b = 9) :
    d.getLsbD b = true ∧ (d + 4).getLsbD b = false ↔ (d.toNat + 4) % 2 ^ (b + 1) = 0 := by
  have hd := d.isLt
  have hsum : (d + 4).toNat = (d.toNat + 4) % 65536 := BitVec.toNat_add d 4
  simp only [← BitVec.testBit_toNat, Nat.testBit_eq_decide_div_mod_eq, hsum, decide_eq_true_eq, decide_eq_false_iff_not]
  obtain rfl | rfl | rfl | rfl := hb <;> omega

/-- The timer's step ticks with the gate open and the divider at a multiple of four periods, and otherwise only adds 4. -/
theorem timerStep_eq {s : State} (h : TimerOk s.timer) :
    timerStep s =
      if s.timer.tac.getLsbD 2 = true ∧ (s.timer.divCounter.toNat + 4) % (4 * timerPeriod s.timer.tac) = 0 then
        timaTick { s with timer := { s.timer with divCounter := BitVec.ofNat 16 (s.timer.divCounter.toNat + 4) } }
      else { s with timer := { s.timer with divCounter := BitVec.ofNat 16 (s.timer.divCounter.toNat + 4) } } := by
  obtain ⟨hbit, hperiod⟩ := tacBit_spec s.timer.tac
  have hsum : BitVec.ofNat 16 (s.timer.divCounter.toNat + 4) = s.timer.divCounter + 4 := by
    rw [BitVec.ofNat_add, BitVec.ofNat_toNat, BitVec.setWidth_eq]
    rfl
  simp only [← hperiod, ← falls_iff h hbit, hsum, timerStep, Bool.and_eq_true, Bool.not_eq_true', and_assoc]

/-- Settles O47: the falling edges of the selected bit are the multiples of four periods; then by what `TIMA` holds. -/
theorem timerTicksOnItsPeriod : Obligations.TimerTicksOnItsPeriod := by
  intro s h
  dsimp only
  rw [timerStep_eq h]
  refine ⟨fun hidle => if_neg ?_, fun htick => ⟨fun hfull => ?_, fun hroom => ?_⟩⟩
  · rintro ⟨hgate, hmultiple⟩
    exact hidle.elim (fun hoff => absurd (hgate.symm.trans hoff) (by decide)) fun hne => hne hmultiple
  · rw [if_pos htick]
    exact if_pos hfull
  · rw [if_pos htick]
    exact if_neg hroom

/-! The DMA controller. -/

/-- A page number as an address (R396). -/
theorem joinBytes_zero (v : Byte) : joinBytes v 0 = BitVec.ofNat 16 (256 * v.toNat) := by
  apply BitVec.eq_of_toNat_eq
  rw [joinBytes_toNat, BitVec.toNat_ofNat]
  have := v.isLt
  simp
  omega

section
variable {s : State} {t : Transfer} (h : s.dma.transfer = some t)
include h

theorem dmaStep_of_objectMemory (hkind : t.kind = .objectMemory) : dmaStep s = objectMemoryStep s t := by
  simp only [dmaStep, h, hkind]

theorem dmaStep_of_general (hkind : t.kind = .general) : dmaStep s = generalStep s t := by
  simp only [dmaStep, h, hkind]

theorem stalled_of_general (hkind : t.kind = .general) : s.dma.stalled = true := by
  simp [Dma.stalled, h, hkind]

end

/-- Settles O48: the start registers by their addresses, a step by the kind of the transfer. -/
theorem transfersMoveTheirBytes : Obligations.TransfersMoveTheirBytes := by
  intro s
  refine ⟨fun v => ?_, fun v => ?_, fun t h hkind => ?_, fun t h hkind => ?_⟩
  · rw [memWrite_of_locate_reg (r := .dma) (locate_of_ioRegAt s (by decide) (by decide)), ← joinBytes_zero]
    rfl
  · exact memWrite_of_locate_reg (r := .hdma5) (locate_of_ioRegAt s (by decide) (by decide)) v
  · exact dmaStep_of_objectMemory h hkind
  · exact dmaStep_of_general h hkind

/-- A general transfer with two times `n` bytes left is gone after `n` steps, and there before each of them. -/
theorem general_ends_after {n : Nat} : ∀ {s : State} {t : Transfer}, s.dma.transfer = some t → t.kind = .general →
    TransferOk t → (t.length - t.done) / 2 = n →
    (dmaStep^[n] s).dma.transfer = none ∧ ∀ k < n, (dmaStep^[k] s).dma.stalled = true := by
  induction n with
  | zero =>
    intro s t _ hkind ⟨hdone, _, hgeneral⟩ hn
    obtain ⟨_, hlength, heven⟩ := hgeneral hkind
    omega
  | succ n ih =>
    intro s t h hkind hok hn
    have hnext : (dmaStep s).dma.transfer = t.advance 2 := congrArg (·.dma.transfer) (dmaStep_of_general h hkind)
    have hfirst : s.dma.stalled = true := stalled_of_general h hkind
    by_cases hlast : t.done + 2 = t.length
    · obtain rfl : n = 0 := by omega
      refine ⟨hnext.trans (if_pos hlast), fun k hk => ?_⟩
      obtain rfl : k = 0 := by omega
      exact hfirst
    · have hmoved : t.advance 2 = some { t with done := t.done + 2 } := if_neg hlast
      have hleft : (t.length - (t.done + 2)) / 2 = n := by omega
      obtain ⟨hgone, hstalled⟩ := ih (hnext.trans hmoved) hkind (hok.advance_two hkind _ hmoved) hleft
      refine ⟨hgone, fun k hk => ?_⟩
      cases k with
      | zero => exact hfirst
      | succ k => exact hstalled k (Nat.lt_of_succ_lt_succ hk)

/-- Settles O49: by the number of steps left. -/
theorem generalTransferEnds : Obligations.GeneralTransferEnds :=
  fun _ _ h hkind hok => general_ends_after h hkind hok rfl

end Sys2Proof.Machine
end

section
/-! PROOF. The ports of the timer, the interrupt masks, the bank, mode and speed registers, the display's line registers and
the joypad (spec/61_timer.md R381 to R385; spec/21_io_registers.md R111 to R121; spec/63_video.md R416 to R419). -/

namespace Sys2Proof.Machine

/-- The register `r` stands at the address `a` of the register page (R110). -/
abbrev PortAt (a : Word) (r : IoReg) : Prop := 0xFF00 ≤ a.toNat ∧ ioRegAt (a.toNat - 0xFF00) = some r

theorem PortAt.access {a : Word} {r : IoReg} (h : PortAt a r) (s : State) (v : Byte) :
    memWrite s a v = ioWrite s r v ∧ memRead s a = ioRead s r :=
  have hl : locate s a = .reg r := locate_of_ioRegAt s h.1 h.2
  ⟨memWrite_of_locate_reg hl v, memRead_of_locate_reg hl⟩

/-! Registers narrower than a byte read with their unused bits 1. -/

theorem Timer.readTac_toNat (t : Timer) : t.readTac.toNat = 0xF8 + t.tac.toNat := by
  have h : ∀ x : BitVec 3, (0xF8#8 ||| x.setWidth 8).toNat = 0xF8 + x.toNat := by decide
  exact h t.tac

theorem read_svbk_toNat (x : BitVec 3) : (0xF8#8 ||| x.setWidth 8).toNat = 0xF8 + x.toNat := by
  revert x
  decide

theorem read_vbk_toNat (x : BitVec 1) : (0xFE#8 ||| x.setWidth 8).toNat = 0xFE + x.toNat := by
  revert x
  decide

theorem read_key1_toNat (double armed : Bool) :
    (0x7E#8 ||| bitAt double 7 ||| bitAt armed 0).toNat =
      (if double = true then 128 else 0) + 0x7E + (if armed = true then 1 else 0) := by
  revert double armed
  decide

/-- The fields of `STAT` lie side by side (R416). -/
theorem stat_toNat (sel : BitVec 4) (same : Bool) (m : Fin 4) :
    (0x80#8 ||| (sel.setWidth 8 <<< 3) ||| bitAt same 2 ||| BitVec.ofNat 8 m).toNat =
      128 + 8 * sel.toNat + (if same = true then 4 else 0) + m := by
  revert sel same m
  decide

/-- `STAT` by its fields, with the mode code 0 while the display is off. -/
theorem Video.readStat_toNat (v : Video) :
    v.readStat.toNat =
      128 + 8 * v.statSel.toNat + (if v.ly = v.lyc.toNat then 4 else 0) +
        (if v.on = true then v.mode.code.toNat else 0) := by
  have hcode : ∃ m : Fin 4, (if v.on then v.mode.code else 0) = BitVec.ofNat 8 m ∧
      (if v.on then v.mode.code.toNat else 0) = m := by
    cases v.on with
    | false => exact ⟨0, rfl, rfl⟩
    | true =>
      cases v.mode with
      | hBlank => exact ⟨0, rfl, rfl⟩
      | vBlank => exact ⟨1, rfl, rfl⟩
      | oamSearch => exact ⟨2, rfl, rfl⟩
      | transfer => exact ⟨3, rfl, rfl⟩
  obtain ⟨m, hbits, hnumber⟩ := hcode
  rw [Video.readStat, hbits, hnumber, stat_toNat]
  simp only [beq_iff_eq]

/-- The bits of `P1`: the four lines, the two select bits, and two ones (R111). -/
theorem p1_bits (sel : BitVec 2) (b0 b1 b2 b3 : Bool) :
    let v := 0xC0#8 ||| (sel.setWidth 8 <<< 4) ||| bitAt b0 0 ||| bitAt b1 1 ||| bitAt b2 2 ||| bitAt b3 3
    bit v 0 = b0 ∧ bit v 1 = b1 ∧ bit v 2 = b2 ∧ bit v 3 = b3 ∧ bit v 4 = sel.getLsbD 0 ∧ bit v 5 = sel.getLsbD 1 ∧
      bit v 6 = true ∧ bit v 7 = true := by
  revert sel b0 b1 b2 b3
  decide

/-- A line of `P1` reads 0 when a held button stands in a selected column (R111). -/
theorem p1_line_iff {x s0 s1 dir act : Bool} (h : x = !((!s0 && dir) || (!s1 && act))) :
    x = false ↔ (s0 = false ∧ some dir = some true) ∨ (s1 = false ∧ some act = some true) := by
  subst h
  revert s0 s1 dir act
  decide

/-- Settles O40: each port by its address in the register directory, and its read by the fields it shows. -/
theorem plainRegisterPorts : Obligations.PlainRegisterPorts := by
  intro s v
  have port : ∀ {a r}, PortAt a r → memWrite s a v = ioWrite s r v ∧ memRead s a = ioRead s r := fun h => h.access s v
  refine ⟨?div, port (r := .tima) (by decide), port (r := .tma) (by decide), ?tac, port (r := .iflag) (by decide),
    port (r := .ie) (by decide), ?vbk, ?svbk, ?key0, ?key1, ?stat, ?ly, port (r := .lyc) (by decide), ?p1⟩
  case div =>
    obtain ⟨hwrite, hread⟩ := port (a := 0xFF04) (r := .div) (by decide)
    exact ⟨hwrite, hread ▸ hiByte_toNat _⟩
  case tac =>
    obtain ⟨hwrite, hread⟩ := port (a := 0xFF07) (r := .tac) (by decide)
    exact ⟨hwrite, hread ▸ s.timer.readTac_toNat⟩
  case vbk =>
    obtain ⟨hwrite, hread⟩ := port (a := 0xFF4F) (r := .vbk) (by decide)
    exact ⟨hwrite, hread ▸ read_vbk_toNat _⟩
  case svbk =>
    obtain ⟨hwrite, hread⟩ := port (a := 0xFF70) (r := .svbk) (by decide)
    exact ⟨hwrite, hread ▸ read_svbk_toNat _⟩
  case key0 =>
    obtain ⟨hwrite, hread⟩ := port (a := 0xFF4C) (r := .key0) (by decide)
    exact ⟨fun hmapped => hwrite.trans (if_pos hmapped),
      fun hunmapped => hwrite.trans (if_neg (Bool.eq_false_iff.mp hunmapped)), hread⟩
  case key1 =>
    obtain ⟨hwrite, hread⟩ := port (a := 0xFF4D) (r := .key1) (by decide)
    exact ⟨hwrite, hread ▸ read_key1_toNat _ _⟩
  case stat =>
    obtain ⟨hwrite, hread⟩ := port (a := 0xFF41) (r := .stat) (by decide)
    refine ⟨hwrite, ?_⟩
    rw [hread, ioRead, Video.readStat_toNat]
    cases s.video.mode <;> rfl
  case ly =>
    obtain ⟨hwrite, hread⟩ := port (a := 0xFF44) (r := .ly) (by decide)
    refine ⟨hwrite, fun hly => ?_⟩
    rw [hread]
    exact Nat.mod_eq_of_lt (hly.trans (by decide))
  case p1 =>
    obtain ⟨hwrite, hread⟩ := port (a := 0xFF00) (r := .p1) (by decide)
    refine ⟨hwrite, ?_⟩
    rw [hread]
    obtain ⟨h0, h1, h2, h3, h4, h5, h6, h7⟩ := p1_bits s.joypad.select _ _ _ _
    refine ⟨fun i hi => ?_, h4, h5, h6, h7⟩
    interval_cases i
    exacts [p1_line_iff h0, p1_line_iff h1, p1_line_iff h2, p1_line_iff h3]

end Sys2Proof.Machine
end

section
/-! PROOF. One visible line of the display (spec/63_video.md R425, R426, R434, R440; spec/92_eei_decisions.md D29). -/

namespace Sys2Proof.Machine

/-- `t` is `s` with `n` cycles of the mode `m` behind it: only the position in the line, the STAT line's last value and the
interrupt flags differ. -/
def Scanning (s : State) (m : VideoMode) (n : Nat) (t : State) : Prop :=
  ∃ p q, t = { s with video := { s.video with mode := m, modeCycles := n, statLinePrev := p }, irq := q }

/-- The STAT line's update comes last and is no part of the position (R430). -/
theorem Scanning.statUpdate {s t : State} {m : VideoMode} {n : Nat} (h : Scanning s m n t) :
    Scanning s m n (statUpdate t) := by
  obtain ⟨p, q, rfl⟩ := h
  unfold Machine.statUpdate
  dsimp only
  split_ifs <;> exact ⟨_, _, rfl⟩

section
variable {s t : State} {m : VideoMode} {n : Nat} (hon : s.video.on = true)
include hon

theorem Scanning.videoStep_eq (h : Scanning s m n t) : videoStep t = Machine.statUpdate (modeAdvance t) := by
  obtain ⟨p, q, rfl⟩ := h
  exact if_pos hon

/-- One cycle more while the mode's budget lasts. -/
theorem Scanning.count (h : Scanning s m n t) (hn : n + 1 ≠ modeBudget m) : Scanning s m (n + 1) (videoStep t) := by
  rw [h.videoStep_eq hon]
  obtain ⟨p, q, rfl⟩ := h
  refine Scanning.statUpdate ⟨p, q, ?_⟩
  cases m <;> exact if_neg hn

theorem Scanning.iterate (h : Scanning s m n t) {k : Nat} (hk : n + k < modeBudget m) :
    Scanning s m (n + k) (videoStep^[k] t) := by
  induction k with
  | zero => exact h
  | succ k ih =>
    rw [Function.iterate_succ_apply']
    exact (ih (by omega)).count hon hk.ne

/-- A mode entered by a step, followed through its budget. -/
theorem Scanning.run {u : State} {j k : Nat} (h : Scanning s m 0 (videoStep (videoStep^[j] u))) (hk : k < modeBudget m) :
    Scanning s m k (videoStep^[k + (j + 1)] u) := by
  rw [Function.iterate_add_apply, Function.iterate_succ_apply' videoStep j]
  simpa only [Nat.zero_add] using h.iterate hon (k := k) (by rwa [Nat.zero_add])

theorem Scanning.toTransfer (h : Scanning s .oamSearch 20 t) : Scanning s .transfer 0 (videoStep t) := by
  rw [h.videoStep_eq hon]
  obtain ⟨p, q, rfl⟩ := h
  exact Scanning.statUpdate ⟨p, q, rfl⟩

/-- The last cycle of Transfer renders the line on the state it finds (R434). -/
theorem Scanning.toHBlank (h : Scanning s .transfer 42 t) :
    Scanning (renderLine t s.video.ly) .hBlank 0 (videoStep t) := by
  rw [h.videoStep_eq hon]
  obtain ⟨p, q, rfl⟩ := h
  exact Scanning.statUpdate ⟨p, q, rfl⟩

theorem Scanning.toNextLine (h : Scanning s .hBlank 49 t) (hly : s.video.ly + 1 ≠ 144) :
    Scanning { s with video := { s.video with ly := s.video.ly + 1 } } .oamSearch 0 (videoStep t) := by
  rw [h.videoStep_eq hon]
  obtain ⟨p, q, rfl⟩ := h
  exact Scanning.statUpdate ⟨p, q, if_neg hly⟩

end

/-- The window's line counter by the formula of R440. -/
theorem windowLineAfter_eq (v : Video) (line : Nat) :
    windowLineAfter v line =
      v.windowLine + if bit v.lcdc 5 = true ∧ v.wy.toNat ≤ line ∧ v.wx.toNat ≤ 166 then 1 else 0 := by
  unfold windowLineAfter
  simp only [Bool.and_eq_true, decide_eq_true_eq, and_assoc]
  split <;> rfl

section
variable {s : State} (hon : s.video.on = true) (hmode : s.video.mode = .oamSearch) (hcycles : s.video.modeCycles = 0)
include hon hmode hcycles

/-- The first 21 cycles (R425). -/
theorem scanning_oamSearch {k : Nat} (hk : k < 21) : Scanning s .oamSearch k (videoStep^[k] s) := by
  have hstart : Scanning s .oamSearch 0 s := ⟨s.video.statLinePrev, s.irq, by rw [← hmode, ← hcycles]⟩
  simpa only [Nat.zero_add] using hstart.iterate hon (k := k) (by rwa [Nat.zero_add])

/-- The next 43 cycles. -/
theorem scanning_transfer {k : Nat} (hk : k < 43) : Scanning s .transfer k (videoStep^[k + 21] s) :=
  ((scanning_oamSearch hon hmode hcycles (show 20 < 21 by decide)).toTransfer hon).run hon hk

/-- Rendering needs the display on, and leaves it on. -/
theorem renderLine_on_after (k line : Nat) (hk : k < 43) : (renderLine (videoStep^[k + 21] s) line).video.on = true := by
  obtain ⟨p, q, h⟩ := scanning_transfer hon hmode hcycles hk
  rw [h]
  exact hon

/-- The last 50 cycles, on the rendered line. -/
theorem scanning_hBlank {k : Nat} (hk : k < 50) :
    Scanning (renderLine (videoStep^[63] s) s.video.ly) .hBlank k (videoStep^[k + 64] s) :=
  ((scanning_transfer hon hmode hcycles (show 42 < 43 by decide)).toHBlank hon).run
    (renderLine_on_after hon hmode hcycles 42 _ (by decide)) hk

/-- And then the next line. -/
theorem scanning_nextLine (hly : s.video.ly < 143) :
    let r := renderLine (videoStep^[63] s) s.video.ly
    Scanning { r with video := { r.video with ly := s.video.ly + 1 } } .oamSearch 0 (videoStep^[114] s) := by
  obtain ⟨p, q, h⟩ := scanning_transfer hon hmode hcycles (show 42 < 43 by decide)
  have hline : (renderLine (videoStep^[63] s) s.video.ly).video.ly = s.video.ly := by
    rw [h]
    rfl
  have hlast := (scanning_hBlank hon hmode hcycles (show 49 < 50 by decide)).toNextLine
    (renderLine_on_after hon hmode hcycles 42 _ (by decide)) (by rw [hline]; omega)
  rw [← Function.iterate_succ_apply' videoStep, hline] at hlast
  exact hlast

/-- Before the line is rendered the frame buffer is as it was. -/
theorem frameBuffer_before {k : Nat} (hk : k < 64) : (videoStep^[k] s).frameBuffer = s.frameBuffer := by
  obtain hlt | hge := Nat.lt_or_ge k 21
  · obtain ⟨p, q, h⟩ := scanning_oamSearch hon hmode hcycles hlt
    rw [h]
  · obtain ⟨j, rfl⟩ : ∃ j, k = j + 21 := ⟨k - 21, by omega⟩
    obtain ⟨p, q, h⟩ := scanning_transfer hon hmode hcycles (k := j) (by omega)
    rw [h]

/-- From the rendering on, frame buffer and window counter are those of the rendered line. -/
theorem rendered_after (hly : s.video.ly < 143) {k : Nat} (hlo : 64 ≤ k) (hhi : k ≤ 114) :
    (videoStep^[k] s).frameBuffer = (renderLine (videoStep^[63] s) s.video.ly).frameBuffer ∧
      (videoStep^[k] s).video.windowLine = (renderLine (videoStep^[63] s) s.video.ly).video.windowLine := by
  obtain hlt | rfl := Nat.lt_or_eq_of_le hhi
  · obtain ⟨j, rfl⟩ : ∃ j, k = j + 64 := ⟨k - 64, by omega⟩
    obtain ⟨p, q, h⟩ := scanning_hBlank hon hmode hcycles (k := j) (by omega)
    rw [h]
    exact ⟨rfl, rfl⟩
  · obtain ⟨p, q, h⟩ := scanning_nextLine hon hmode hcycles hly
    rw [h]
    exact ⟨rfl, rfl⟩

end

/-- Settles O50: by the mode each cycle lies in, on the state of the start or, from the 64th step on, on the rendered
one. -/
theorem visibleLineLasts114Cycles : Obligations.VisibleLineLasts114Cycles := by
  intro s hon hmode hcycles hly
  dsimp only
  refine ⟨fun k hk => ?modes, fun k hk => ?before, fun k hlo hhi => ?after, ?counter, ?mode, ?cycles, ?line⟩
  case modes =>
    split_ifs with h21 h64
    · obtain ⟨p, q, h⟩ := scanning_oamSearch hon hmode hcycles h21
      rw [h]
    · obtain ⟨j, rfl⟩ : ∃ j, k = j + 21 := ⟨k - 21, by omega⟩
      obtain ⟨p, q, h⟩ := scanning_transfer hon hmode hcycles (k := j) (by omega)
      rw [h]
    · obtain ⟨j, rfl⟩ : ∃ j, k = j + 64 := ⟨k - 64, by omega⟩
      obtain ⟨p, q, h⟩ := scanning_hBlank hon hmode hcycles (k := j) (by omega)
      rw [h]
  case before => exact frameBuffer_before hon hmode hcycles hk
  case after =>
    obtain ⟨hbuffer, hcounter⟩ := rendered_after hon hmode hcycles hly hlo hhi
    have hunchanged := frameBuffer_before hon hmode hcycles (show 63 < 64 by decide)
    exact ⟨hbuffer, hbuffer.trans (congrArg (fun fb => List.set fb _ _) hunchanged), hcounter⟩
  case counter =>
    obtain ⟨p, q, h⟩ := scanning_transfer hon hmode hcycles (show 42 < 43 by decide)
    rw [h]
    exact windowLineAfter_eq s.video s.video.ly
  all_goals
    obtain ⟨p, q, h⟩ := scanning_nextLine hon hmode hcycles hly
    rw [h]

end Sys2Proof.Machine
end

section
/-! PROOF. The devices' interrupt requests and the display switch (spec/63_video.md R415, R428 to R433, R448;
spec/21_io_registers.md R112). -/

namespace Sys2Proof.Machine

theorem bit_request (q : Irq) {i : Nat} (hi : i < 8) (k : Nat) :
    bit (q.request k).flags i = (bit q.flags i || decide (i = k)) := by
  rw [Irq.request, bit_or, bit_one_shiftLeft hi]

/-- The STAT line's update adds a request exactly on a rising edge, and leaves the line as it is (R430). -/
theorem statUpdate_spec (s : State) :
    (statUpdate s).video.statLine = s.video.statLine ∧ (statUpdate s).video.mode = s.video.mode ∧
      (statUpdate s).video.ly = s.video.ly ∧
      (statUpdate s).irq = if (s.video.statLine && !s.video.statLinePrev) = true then s.irq.request irqStat else s.irq := by
  unfold statUpdate
  dsimp only
  split_ifs <;> exact ⟨rfl, rfl, rfl, rfl⟩

/-- The mode machine leaves the STAT line's last value and flag alone: its own request is VBlank's (R428). -/
theorem modeAdvance_keeps_stat (s : State) :
    (modeAdvance s).video.statLinePrev = s.video.statLinePrev ∧
      bit (modeAdvance s).irq.flags 1 = bit s.irq.flags 1 := by
  have hvblank : bit (s.irq.request irqVBlank).flags 1 = bit s.irq.flags 1 := by
    rw [bit_request s.irq (by decide)]
    exact Bool.or_false _
  unfold modeAdvance
  dsimp only
  split
  · split_ifs <;> exact ⟨rfl, rfl⟩
  · split_ifs <;> exact ⟨rfl, rfl⟩
  · unfold afterHBlank
    dsimp only
    split_ifs
    · exact ⟨rfl, hvblank⟩
    · exact ⟨rfl, rfl⟩
    · exact ⟨rfl, rfl⟩
  · unfold afterVBlankLine
    dsimp only
    split_ifs <;> exact ⟨rfl, rfl⟩

theorem videoStep_of_on {s : State} (hon : s.video.on = true) : videoStep s = statUpdate (modeAdvance s) := if_pos hon

/-- STAT's flag after a video step: as before, or raised by a line that is up now and was down (R430). -/
theorem videoStep_statFlag {s : State} (hon : s.video.on = true) :
    bit (videoStep s).irq.flags 1 =
      (bit s.irq.flags 1 || ((videoStep s).video.statLine && !s.video.statLinePrev)) := by
  obtain ⟨hprev, hflag⟩ := modeAdvance_keeps_stat s
  obtain ⟨hline, _, _, hirq⟩ := statUpdate_spec (modeAdvance s)
  rw [videoStep_of_on hon, hline, hirq, ← hflag, ← hprev]
  split
  · next hrises => rw [bit_request _ (by decide), hrises]; rfl
  · next hstays => rw [Bool.eq_false_iff.mpr hstays, Bool.or_false]

/-- The cycle that ends the last visible line's HBlank enters VBlank and requests it (R425, R428). -/
theorem modeAdvance_of_last_line {s : State} (hmode : s.video.mode = .hBlank) (hcycles : s.video.modeCycles = 49)
    (hly : s.video.ly = 143) :
    modeAdvance s =
      { s with video := { s.video with ly := 144, modeCycles := 0, mode := .vBlank }, irq := s.irq.request irqVBlank } := by
  simp only [modeAdvance, hmode, hcycles, afterHBlank, hly]
  rfl

/-- Settles O51: VBlank by the mode machine, STAT by its edge, the joypad by the press. -/
theorem deviceInterruptRequests : Obligations.DeviceInterruptRequests := by
  intro s
  refine ⟨?vblank, ?up, ?rises, ?down, ?joypad⟩
  case vblank =>
    intro hon hmode hcycles hly
    obtain ⟨_, hmode', hly', hirq⟩ := statUpdate_spec (modeAdvance s)
    rw [videoStep_of_on hon, hmode', hly', hirq, modeAdvance_of_last_line hmode hcycles hly]
    have hflag : bit (s.irq.request irqVBlank).flags 0 = true := by
      rw [bit_request _ (by decide)]
      exact Bool.or_true _
    refine ⟨rfl, rfl, ?_⟩
    split
    · rw [bit_request _ (by decide), hflag]; rfl
    · exact hflag
  case up =>
    intro hon hprev hflag
    rw [videoStep_statFlag hon, hprev, hflag]
    exact Bool.and_false _
  case rises =>
    intro hon hprev hline
    rw [videoStep_statFlag hon, hprev, hline]
    exact Bool.or_true _
  case down =>
    intro hon hprev hline hflag
    rw [videoStep_statFlag hon, hprev, hline, hflag]
    rfl
  case joypad =>
    intro k
    refine ⟨?_, rfl, rfl⟩
    show bit (s.irq.request irqJoypad).flags 4 = true
    rw [bit_request _ (by decide)]
    exact Bool.or_true _

/-! The display switch. -/

section
variable {v : Video} {x : Byte}

theorem Video.writeLcdc_off (hon : v.on = true) (hx : bit x 7 = false) :
    v.writeLcdc x =
      { v with lcdc := x, ly := 0, mode := .oamSearch, modeCycles := 0, windowLine := 0, statLinePrev := false } := by
  simp [Video.writeLcdc, hon, hx]

theorem Video.writeLcdc_on (hoff : v.on = false) (hx : bit x 7 = true) :
    v.writeLcdc x = { v with lcdc := x, frameBlank := true } := by
  simp [Video.writeLcdc, hoff, hx]

end

/-- With a white frame pending the frame's books are the white frame and a new count (R433, R588). -/
theorem frameBoundary_of_frameBlank {s : State} (hlive : s.cpu.fatal = none) (hblank : s.video.frameBlank = true) :
    frameBoundary s =
      { s with
        frameBuffer := List.replicate Config.visibleLines (some whiteLine)
        video := { s.video with frameBlank := false }
        frameCycle := 0 } := by
  simp [frameBoundary, hlive, hblank]

/-- Every byte of the white frame is 0xFF (R448). -/
theorem frameByte_white {s : State} (h : s.frameBuffer = List.replicate Config.visibleLines (some whiteLine))
    {off : Nat} (hoff : off < 160 * 144 * 4) : frameByte s off = some 0xFF := by
  have hrow : (List.replicate Config.visibleLines (some whiteLine)).getD (off / 640) none = some whiteLine :=
    List.getD_replicate _ (by show off / 640 < 144; omega)
  have hpixel : whiteLine[off % 640 / 4]? = some ⟨0xFF, 0xFF, 0xFF, 0xFF⟩ :=
    List.getElem?_replicate_of_lt (by show off % 640 / 4 < 160; omega)
  rw [frameByte, h, hrow]
  dsimp only
  rw [hpixel]
  dsimp only
  simp only [ite_self]

/-- Settles O52: the register by its two edges, and the white frame byte by byte. -/
theorem displaySwitch : Obligations.DisplaySwitch := by
  intro s v
  have hwrite : memWrite s 0xFF40 v = { s with video := s.video.writeLcdc v } :=
    (PortAt.access (r := .lcdc) (by decide) s v).1
  refine ⟨?off, fun hoff => if_neg (Bool.eq_false_iff.mp hoff), ?on, ?white⟩
  case off =>
    intro hon hv
    rw [hwrite, Video.writeLcdc_off hon hv]
  case on =>
    intro hoff hv
    rw [hwrite, Video.writeLcdc_on hoff hv]
  case white =>
    intro hlive hblank
    rw [frameBoundary_of_frameBlank hlive hblank]
    exact ⟨rfl, rfl, fun off hoff => frameByte_white rfl hoff⟩

end Sys2Proof.Machine
end

section
/-! PROOF. The sound power switch and the mixer's range (spec/64_sound.md R491 to R494, R504 to R507, R520). -/

namespace Sys2Proof.Machine

/-! With the power off. -/

/-- Between 0xFF10 and 0xFF25 the directory holds the channel and mixer registers and nothing else (R110). -/
def isSoundRegOrNone : Option IoReg → Bool
  | some (.sound _) => true
  | none => true
  | some _ => false

theorem ioRegAt_sound : ∀ off < 0x26, 0x10 ≤ off → isSoundRegOrNone (ioRegAt off) = true := by
  decide

/-- The page 0xFF00-0xFFFF is laid out by the offset in it, in every state (R73). -/
theorem locate_page (s : State) {a : Word} (ha : 0xFF00 ≤ a.toNat) : locate s a = locatePage (a.toNat - 0xFF00) := by
  unfold locate
  dsimp only
  iterate 9 rw [if_neg (by omega)]

theorem locate_sound (s : State) {a : Word} (hlo : 0xFF10 ≤ a.toNat) (hhi : a.toNat ≤ 0xFF25) :
    locate s a = .noReg ∨ ∃ r, locate s a = .reg (.sound r) := by
  have hport := ioRegAt_sound (a.toNat - 0xFF00) (by omega) (by omega)
  rw [locate_page s (by omega), locatePage]
  cases hr : ioRegAt (a.toNat - 0xFF00) with
  | none =>
    left
    dsimp only
    rw [if_neg (by omega), if_neg (by omega)]
  | some r =>
    rw [hr] at hport
    cases r with
    | sound r => exact .inr ⟨r, rfl⟩
    | _ => cases hport

/-- A write to a channel or mixer register is lost (R493). -/
theorem memWrite_sound_off {s : State} (hoff : s.sound.power = false) {a : Word} (hlo : 0xFF10 ≤ a.toNat)
    (hhi : a.toNat ≤ 0xFF25) (v : Byte) : memWrite s a v = s := by
  obtain h | ⟨r, h⟩ := locate_sound s hlo hhi
  · rw [memWrite, h, Location.write]
  · have hlost : s.sound.writeReg r v = s.sound := if_neg (Bool.eq_false_iff.mp hoff)
    rw [memWrite_of_locate_reg h, ioWrite, hlost]

section
variable {s : Sound} (hoff : s.power = false)
include hoff

theorem Sound.half_off (first : Bool) : s.half first = s := if_neg (Bool.eq_false_iff.mp hoff)

theorem Sound.mix_off (p : Params) (ram : Memory) : s.mix p ram = (0, 0) := if_neg (Bool.eq_false_iff.mp hoff)

/-- The pending reset of a step's first line takes place or not; the power stays off (R494, R520). -/
theorem Sound.power_pendingReset : (if s.powerOffPending then s.powerOffReset else s).power = false := by
  split
  · rfl
  · exact hoff

/-- No tick without power: the pending reset and the kept divider bit are all that happens (R494). -/
theorem Sound.sequence_off (b : Bool) :
    s.sequence b = { (if s.powerOffPending then s.powerOffReset else s) with seqPrevBit := b } := by
  have hstill := Sound.power_pendingReset hoff
  unfold Sound.sequence
  generalize (if s.powerOffPending then s.powerOffReset else s) = u at hstill ⊢
  simp [hstill]

end

/-- A sound step without power: the sequencing alone, and two silent pairs. -/
theorem soundStep_off {s : State} (hoff : s.sound.power = false) :
    soundStep s =
      { s with
        sound :=
          { (if s.sound.powerOffPending then s.sound.powerOffReset else s.sound) with
            seqPrevBit := s.timer.divCounter.getLsbD 12 }
        audioOut := (0, 0) :: (0, 0) :: s.audioOut } := by
  have hsequence := Sound.sequence_off hoff (s.timer.divCounter.getLsbD 12)
  have hstill : (s.sound.sequence (s.timer.divCounter.getLsbD 12)).power = false := by
    rw [hsequence]
    exact Sound.power_pendingReset hoff
  simp only [soundStep, Sound.half_off hstill, Sound.mix_off hstill]
  rw [hsequence]

/-- Settles O53: by the register map, and by the sound step without power before and after the switch. -/
theorem soundPowerOff : Obligations.SoundPowerOff := by
  intro s
  obtain ⟨-, hread⟩ := PortAt.access (a := 0xFF26) (r := .nr52) (by decide) s 0
  refine ⟨fun hoff => ⟨fun a v hlo hhi => memWrite_sound_off hoff hlo hhi v, ?_, ?_⟩, fun v hon hv => ?_⟩
  · exact hread.trans (if_neg (Bool.eq_false_iff.mp hoff))
  · rw [soundStep_off hoff]
  · have hswitched : s.sound.writeNr52 v = { s.sound with power := false, powerOffPending := true } := by
      simp [Sound.writeNr52, hon, hv]
    obtain ⟨hwrite, -⟩ := PortAt.access (a := 0xFF26) (r := .nr52) (by decide) s v
    rw [hwrite, ioWrite, hswitched, soundStep_off rfl]
    exact ⟨rfl, rfl⟩

/-! The mixer (R505 to R507). -/

theorem abs_volume_le {n : Nat} (h : n ≤ 15) (low : Bool) : |if low then -(n : Int) else n| ≤ 15 := by
  cases low <;> simpa using h

theorem abs_ite_le {p : Prop} [Decidable p] {x b : Int} (hb : 0 ≤ b) (h : |x| ≤ b) : |if p then x else 0| ≤ b := by
  split
  · exact h
  · simpa using hb

theorem Pulse.abs_analog_le {p : Pulse} (h : p.env.volume ≤ 15) (table : List (List Bool)) : |p.analog table| ≤ 15 :=
  abs_ite_le (by decide) (abs_volume_le h _)

theorem Noise.abs_analog_le {n : Noise} (h : n.env.volume ≤ 15) : |n.analog| ≤ 15 :=
  abs_ite_le (by decide) (abs_volume_le h _)

/-- A wave sample has four bits, shifted down or not (R497). -/
theorem Wave.abs_analog_le (ram : Memory) (w : Wave) : |w.analog ram| ≤ 15 := by
  refine abs_ite_le (by decide) ?_
  have hbyte := (Memory.read ram (w.wavePos / 2)).isLt
  have hnibble : w.nibble ram ≤ 15 := by
    unfold Wave.nibble
    dsimp only
    split <;> omega
  have hsample : (if w.level = 0 then 0 else w.nibble ram >>> (w.level.toNat - 1)) ≤ 15 := by
    split
    · exact Nat.zero_le _
    · exact (Nat.shiftRight_le _ _).trans hnibble
  rw [abs_le]
  omega

/-- Four channels at 15 each, times a master volume of at most eight (R507). -/
theorem Sound.abs_side_le {s : Sound} (h : SoundOk s) (p : Params) (ram : Memory) (left : Bool) :
    |s.side p ram left| ≤ 480 := by
  obtain ⟨hv1, hv2, hv4, -⟩ := h
  have hsum : ∀ a b c d : Int, |a| ≤ 15 → |b| ≤ 15 → |c| ≤ 15 → |d| ≤ 15 → |a + b + c + d| ≤ 60 := by
    intro a b c d ha hb hc hd
    rw [abs_le] at *
    omega
  have hmaster : ∀ n : Nat, |((n % 8 + 1 : Nat) : Int)| ≤ 8 := by
    intro n
    rw [Nat.abs_cast]
    omega
  unfold Sound.side
  rw [abs_mul]
  exact mul_le_mul
    (hsum _ _ _ _ (abs_ite_le (by decide) (Pulse.abs_analog_le hv1 _)) (abs_ite_le (by decide) (Pulse.abs_analog_le hv2 _))
      (abs_ite_le (by decide) (Wave.abs_analog_le ram _)) (abs_ite_le (by decide) (Noise.abs_analog_le hv4)))
    (hmaster _) (abs_nonneg _) (by decide)

/-- Settles O54: both sides of the mixer, or silence without power. -/
theorem mixStaysInRange : Obligations.MixStaysInRange := by
  intro s h
  unfold Sound.mix
  split
  · obtain ⟨hl, hl'⟩ := abs_le.mp (Sound.abs_side_le h s.params s.waveRam true)
    obtain ⟨hr, hr'⟩ := abs_le.mp (Sound.abs_side_le h s.params s.waveRam false)
    exact ⟨hl, hl', hr, hr'⟩
  · decide

end Sys2Proof.Machine
end

section
/-! PROOF. Writing the clock, and saving and loading a cartridge (spec/65_cartridge.md R552 to R562). -/

namespace Sys2Proof.Machine

/-! What sets the elapsed time, and what the halt change leaves (R557, R558). -/

section
variable (r : Rtc) (now : Nat)

theorem Rtc.setElapsed_spec (e : Nat) :
    (r.setElapsed now e).elapsed now = e ∧ (r.setElapsed now e).halted = r.halted ∧
      (r.setElapsed now e).carry = r.carry := by
  unfold Rtc.setElapsed Rtc.elapsed
  split <;> simp [*]

/-- The elapsed time is kept when the halt changes (R558). -/
theorem Rtc.setHalt_spec (h : Bool) :
    (r.setHalt now h).elapsed now = r.elapsed now ∧ (r.setHalt now h).halted = h ∧
      (r.setHalt now h).carry = r.carry := by
  unfold Rtc.setHalt Rtc.elapsed
  cases h <;> cases hr : r.halted <;> simp [hr]

theorem Rtc.normalise_halted : (r.normalise now).halted = r.halted := by
  unfold Rtc.normalise
  dsimp only
  split_ifs <;> rfl

end

/-- The elapsed time after a write of one field, from the time `e` before it (R557). -/
def writtenElapsed (e : Nat) (v : Byte) : RtcField → Nat
  | .seconds => e - secOf e + v.toNat % 64
  | .minutes => e - 60 * minOf e + 60 * (v.toNat % 64)
  | .hours => e - 3600 * hourOf e + 3600 * (v.toNat % 32)
  | .dayLow => e - 86400 * (dayOf e % 256) + 86400 * v.toNat
  | .dayHigh => e - 86400 * 256 * (dayOf e / 256) + 86400 * 256 * (v.toNat % 2)

/-- The field widths as remainders. -/
theorem clockMasks (v : Byte) :
    (v &&& 0x3F).toNat = v.toNat % 64 ∧ (v &&& 0x1F).toNat = v.toNat % 32 ∧ carryIn (bit v 0) = v.toNat % 2 := by
  revert v
  decide

theorem Rtc.elapsed_writeField (r : Rtc) (now : Nat) (f : RtcField) (v : Byte) :
    (r.writeField now f v).elapsed now = writtenElapsed ((r.normalise now).elapsed now) v f := by
  obtain ⟨h64, h32, h2⟩ := clockMasks v
  cases f with
  | seconds =>
    rw [writtenElapsed, ← h64]
    exact ((r.normalise now).setElapsed_spec now _).1
  | minutes =>
    rw [writtenElapsed, ← h64]
    exact ((r.normalise now).setElapsed_spec now _).1
  | hours =>
    rw [writtenElapsed, ← h32]
    exact ((r.normalise now).setElapsed_spec now _).1
  | dayLow => exact ((r.normalise now).setElapsed_spec now _).1
  | dayHigh =>
    rw [writtenElapsed, ← h2]
    exact (Rtc.setHalt_spec _ now _).1.trans ((r.normalise now).setElapsed_spec now _).1

/-- A write of any field but the last keeps halt and carry, and reads back as written (R556, R557). -/
theorem Rtc.writeField_keeps (r : Rtc) (now : Nat) {f : RtcField} (hf : f ≠ .dayHigh) (v : Byte) :
    (r.writeField now f v).readField f = v ∧ (r.writeField now f v).halted = r.halted ∧
      (r.writeField now f v).carry = (r.normalise now).carry := by
  have hread : BitVec.ofNat 8 v.toNat = v := by simp
  have hday : ∀ d, BitVec.ofNat 8 (d / 256 * 256 + v.toNat) = v := by
    intro d
    apply BitVec.eq_of_toNat_eq
    rw [BitVec.toNat_ofNat]
    have := v.isLt
    omega
  have hkeeps := fun e => ((r.normalise now).setElapsed_spec now e).2
  simp only [r.normalise_halted now] at hkeeps
  cases f with
  | seconds | minutes | hours => exact ⟨hread, hkeeps _⟩
  | dayLow => exact ⟨hday _, hkeeps _⟩
  | dayHigh => exact absurd rfl hf

/-- The last field shows carry, halt and bit 8 of the days (R556). -/
theorem Rtc.readField_dayHigh_writeField (r : Rtc) (now : Nat) (v : Byte) :
    (r.writeField now .dayHigh v).readField .dayHigh = v &&& 0xC1 := by
  have hbits : ∀ v : Byte, bitAt (bit v 7) 7 ||| bitAt (bit v 6) 6 ||| bitAt (bit v 0) 0 = v &&& 0xC1 := by decide
  have hday : ∀ d, (d % 256 + 256 * carryIn (bit v 0)).testBit 8 = bit v 0 := by
    intro d
    rw [Nat.testBit_eq_decide_div_mod_eq]
    cases bit v 0 <;> simp [carryIn]
  exact (congrArg (fun b => bitAt (bit v 7) 7 ||| bitAt (bit v 6) 6 ||| bitAt b 0) (hday _)).trans (hbits v)

/-- The last field sets carry and halt (R557, R558). -/
theorem Rtc.writeField_dayHigh (r : Rtc) (now : Nat) (v : Byte) :
    (r.writeField now .dayHigh v).carry = bit v 7 ∧ (r.writeField now .dayHigh v).halted = bit v 6 := by
  obtain ⟨-, hhalted, hcarry⟩ := Rtc.setHalt_spec
    { (r.normalise now).setElapsed now ((r.normalise now).elapsed now -
        86400 * 256 * (dayOf ((r.normalise now).elapsed now) / 256) + 86400 * 256 * carryIn (bit v 0)) with
      carry := bit v 7 } now (bit v 6)
  exact ⟨hcarry, hhalted⟩

/-- Settles O55: the elapsed time after each write in numbers, and the snapshot's field as written. -/
theorem clockFieldWrites : Obligations.ClockFieldWrites := by
  intro r now v
  have he : (r.normalise now).elapsed now < 512 * 86400 := r.elapsed_normalise_lt now
  obtain ⟨hcarry, hhalted⟩ := r.writeField_dayHigh now v
  have hv := v.isLt
  dsimp only
  simp only [Rtc.elapsed_writeField, writtenElapsed, secOf, minOf, hourOf, dayOf]
  generalize (r.normalise now).elapsed now = e at he ⊢
  generalize v.toNat = n at hv ⊢
  refine ⟨he, fun hx => ?_, fun hx => ?_, fun hx => ?_, fun hx => ?_, fun hy => ?_, fun hy => ?_, ?_,
    ⟨?_, ?_, ?_, ?_, hcarry, hhalted⟩, fun f hf => r.writeField_keeps now hf v, r.readField_dayHigh_writeField now v⟩
  all_goals omega

/-! Saving and loading. -/

/-- An array in its form reads 0x00 beyond its size. -/
theorem Memory.read_of_below {n : Nat} {m : Memory} (h : m.below n = true) {i : Nat} (hi : n ≤ i) :
    Memory.read m i = 0 := by
  induction m with
  | nil => rfl
  | cons c rest ih =>
    obtain ⟨k, v⟩ := c
    simp only [Memory.below, List.all_cons, Bool.and_eq_true, decide_eq_true_eq] at h ih
    have hki : k < i := h.1.trans_le hi
    simp [Memory.read, hki.ne', hki.not_gt, ih h.2]

theorem Memory.bytesFrom_length (m : Memory) (n : Nat) : ∀ i, (m.bytesFrom i n).length = n := by
  induction n with
  | zero => exact fun _ => rfl
  | succ n ih => exact fun i => congrArg Nat.succ (ih (i + 1))

theorem Memory.bytesFrom_getD (m : Memory) (n : Nat) :
    ∀ i j, (m.bytesFrom i n).getD j 0 = if j < n then Memory.read m (i + j) else 0 := by
  induction n with
  | zero => exact fun _ _ => rfl
  | succ n ih =>
    intro i j
    cases j with
    | zero => simp [Memory.bytesFrom]
    | succ j => simpa [Memory.bytesFrom, Nat.add_assoc, Nat.add_comm 1 j] using ih (i + 1) j

/-- Storing bytes keeps the form, and reads back as the bytes (R562). -/
theorem Memory.store_spec (bs : List Byte) : ∀ {m : Memory} (i : Nat), m.wf = true →
    (m.store i bs).wf = true ∧ ∀ j, Memory.read (m.store i bs) j =
      if i ≤ j ∧ j < i + bs.length then bs.getD (j - i) 0 else Memory.read m j := by
  induction bs with
  | nil =>
    intro m i h
    exact ⟨h, fun j => (if_neg (by simp)).symm⟩
  | cons v rest ih =>
    intro m i h
    obtain ⟨hwf, hread⟩ := ih (i + 1) (Memory.wf_write h i v)
    refine ⟨hwf, fun j => ?_⟩
    show Memory.read ((m.write i v).store (i + 1) rest) j = _
    rw [hread, Memory.read_write_of_wf h, List.length_cons]
    obtain hlt | rfl | hgt := Nat.lt_trichotomy j i
    · rw [if_neg (by omega), if_neg hlt.ne, if_neg (by omega)]
    · rw [if_neg (by omega), if_pos rfl, if_pos (by omega), Nat.sub_self]
      rfl
    · obtain ⟨k, rfl⟩ : ∃ k, j = i + 1 + k := ⟨j - (i + 1), by omega⟩
      have hoff : i + 1 + k - i = k + 1 := by omega
      rw [if_neg (show i + 1 + k ≠ i by omega), hoff, Nat.add_sub_cancel_left, List.getD_cons_succ]
      exact if_congr (by omega) rfl rfl

/-- The bytes of an array, stored into an empty one, are the array (R561, R562). -/
theorem Memory.store_bytesFrom {n : Nat} {m : Memory} (h : ArrayOk n m) :
    Memory.store [] 0 (m.bytesFrom 0 n) = m := by
  obtain ⟨hwf, hbelow⟩ := h
  obtain ⟨hstored, hread⟩ := Memory.store_spec (m.bytesFrom 0 n) (m := []) 0 rfl
  refine Memory.ext_of_wf hstored hwf fun j => ?_
  rw [hread, Memory.bytesFrom_length, Memory.bytesFrom_getD, Nat.sub_zero, Nat.zero_add, Nat.zero_add]
  by_cases hj : j < n
  · rw [if_pos ⟨Nat.zero_le j, hj⟩, if_pos hj]
  · rw [if_neg fun h => hj h.2, Memory.read_of_below hbelow (Nat.not_lt.mp hj)]
    rfl

/-- A loaded clock shows the saved time, halt and carry (R562). -/
theorem Rtc.load_spec (r : Rtc) (now : Nat) (v : RtcSave) :
    (r.load now v).elapsed now = v.elapsed ∧ (r.load now v).halted = v.halted ∧ (r.load now v).carry = v.carry := by
  unfold Rtc.load Rtc.elapsed
  cases v.halted <;> simp

/-- What a save holds (R561). -/
theorem Cart.save_eq {c : Cart} {now : Nat} {v : CartSave} (h : (c.save now).1 = some v) :
    v.ram = Memory.bytesFrom c.ram 0 c.ramSize ∧ (c.hasRtc = true →
      v.rtc = some ⟨(c.rtc.normalise now).elapsed now, c.rtc.halted, (c.rtc.normalise now).carry⟩) := by
  unfold Cart.save at h
  split at h
  · obtain rfl := Option.some.inj h
    refine ⟨rfl, fun hrtc => ?_⟩
    simp [hrtc, Rtc.normalise_halted]
  · cases h

theorem Cart.save_ram (c : Cart) (now : Nat) : (c.save now).2.ram = c.ram := by
  unfold Cart.save
  split <;> rfl

theorem Cart.loadSave_ram (c : Cart) (now : Nat) (v : CartSave) :
    (c.loadSave now v).ram = Memory.store c.ram 0 (v.ram.take c.ramSize) := by
  unfold Cart.loadSave
  dsimp only
  split
  · split_ifs <;> rfl
  · rfl

theorem Cart.loadSave_rtc {c : Cart} (hrtc : c.hasRtc = true) {v : CartSave} {w : RtcSave} (h : v.rtc = some w)
    (now : Nat) : (c.loadSave now v).rtc = c.rtc.load now w := by
  simp [Cart.loadSave, h, hrtc]

/-- Settles O56: the RAM's bytes stored again are the RAM, and the loaded clock is the saved one. -/
theorem saveLoadRoundTrip : Obligations.SaveLoadRoundTrip := by
  intro c fresh now later v harray hempty hsize hrtc hsave
  obtain ⟨hram, hclock⟩ := Cart.save_eq hsave
  refine ⟨?ram, c.save_ram now, fun hhas => ?clock⟩
  case ram =>
    rw [Cart.loadSave_ram, hempty, hram, hsize, List.take_of_length_le (Memory.bytesFrom_length _ _ _).le,
      Memory.store_bytesFrom harray]
  case clock =>
    rw [Cart.loadSave_rtc (hrtc.trans hhas) (hclock hhas)]
    exact Rtc.load_spec _ _ _

end Sys2Proof.Machine
end

section
/-! PROOF. The bank controllers: bank-select writes, ROM offsets and the RAM window (spec/65_cartridge.md R535 to R551, R555,
R556; spec/20_memory.md R65, R67). -/

namespace Sys2Proof.Machine

/-! Bank-select writes. -/

/-- A write below 0x8000 reaches the bank controller, under the overlay too (R65). -/
theorem memWrite_below_8000 (s : State) {a : Word} (ha : a.toNat < 0x8000) (v : Byte) :
    memWrite s a v = { s with cart := s.cart.bankWrite s.now a.toNat v } := by
  rw [memWrite, locate_below_8000 s ha]
  split <;> rfl

/-- The enable test looks at the low nibble (R535). -/
theorem ramEnableTest_eq (v : Byte) : ramEnableTest v = decide (v.toNat % 16 = 10) := by
  revert v
  decide

theorem bit0_eq (v : Byte) : bit v 0 = decide (v.toNat % 2 = 1) := by
  revert v
  decide

/-- The values 8 to 12 select a clock field, no others do (R547). -/
theorem rtcFieldOf_index (f : RtcField) (v : Byte) (hv : v.toNat = 8 + f.index) : rtcFieldOf v = some f := by
  revert v
  cases f <;> decide

theorem rtcFieldOf_none : ∀ v : Byte, v.toNat < 8 ∨ 12 < v.toNat → rtcFieldOf v = none := by
  decide

section
variable {c : Cart} {now addr : Nat} {v : Byte}

/-- The first window enables the RAM on every banked variant (R541, R547, R550). -/
theorem Cart.bankWrite_enable (hk : c.kind ≠ .noMbc) (haddr : addr < 0x2000) :
    c.bankWrite now addr v = { c with ramEnabled := decide (v.toNat % 16 = 10) } := by
  unfold Cart.bankWrite
  rw [← ramEnableTest_eq]
  split
  · next h => exact absurd h hk
  · exact if_pos haddr
  · exact if_pos haddr
  · exact if_pos haddr

/-- `Mbc1` from 0x2000 on (R542 to R544). -/
theorem mbc1Write_windows :
    (0x2000 ≤ addr → addr < 0x4000 → mbc1Write c addr v = { c with romBank := v.toNat % 32 }) ∧
    (0x4000 ≤ addr → addr < 0x6000 → mbc1Write c addr v = { c with ramBank := v.toNat % 4 }) ∧
    (0x6000 ≤ addr → mbc1Write c addr v = { c with advanced := decide (v.toNat % 2 = 1) }) := by
  unfold mbc1Write
  refine ⟨fun hlo hhi => ?_, fun hlo hhi => ?_, fun hlo => ?_⟩
  · rw [if_neg (by omega), if_pos hhi]
  · rw [if_neg (by omega), if_neg (by omega), if_pos hhi]
  · rw [if_neg (by omega), if_neg (by omega), if_neg (by omega), bit0_eq]

/-- `Mbc5` from 0x2000 on (R550). -/
theorem mbc5Write_windows :
    (0x2000 ≤ addr → addr < 0x3000 →
      mbc5Write c addr v = { c with romBank := c.romBank / 256 * 256 + v.toNat }) ∧
    (0x3000 ≤ addr → addr < 0x4000 →
      mbc5Write c addr v = { c with romBank := v.toNat % 2 * 256 + c.romBank % 256 }) ∧
    (0x4000 ≤ addr → addr < 0x6000 → mbc5Write c addr v = { c with ramBank := v.toNat % 16 }) ∧
    (0x6000 ≤ addr → mbc5Write c addr v = c) := by
  have hhigh : c.romBank % 256 + 256 * (v.toNat % 2) = v.toNat % 2 * 256 + c.romBank % 256 := by omega
  unfold mbc5Write
  rw [hhigh]
  refine ⟨fun hlo hhi => ?_, fun hlo hhi => ?_, fun hlo hhi => ?_, fun hlo => ?_⟩
  · rw [if_neg (by omega), if_pos hhi]
  · rw [if_neg (by omega), if_neg (by omega), if_pos hhi]
  · rw [if_neg (by omega), if_neg (by omega), if_neg (by omega), if_pos hhi]
  · rw [if_neg (by omega), if_neg (by omega), if_neg (by omega), if_neg (by omega)]

theorem mbc3Write_romBank (hlo : 0x2000 ≤ addr) (hhi : addr < 0x4000) :
    mbc3Write c now addr v = { c with romBank := v.toNat % 128 } := by
  rw [mbc3Write, if_neg (by omega), if_pos hhi]

/-- The third window of `Mbc3`: a RAM bank, a clock field, or nothing (R547). -/
theorem mbc3Write_select (hlo : 0x4000 ≤ addr) (hhi : addr < 0x6000) :
    (v.toNat ≤ 3 → mbc3Write c now addr v = { c with ramBank := v.toNat, rtc := { c.rtc with select := none } }) ∧
    (∀ f : RtcField, c.hasRtc = true → v.toNat = 8 + f.index →
      mbc3Write c now addr v = { c with rtc := { c.rtc with select := some f } }) ∧
    (3 < v.toNat → c.hasRtc = false ∨ v.toNat < 8 ∨ 12 < v.toNat → mbc3Write c now addr v = c) := by
  unfold mbc3Write
  rw [if_neg (by omega), if_neg (by omega), if_pos hhi]
  refine ⟨fun hbank => if_pos hbank, fun f hrtc hv => ?_, fun hbank hnone => ?_⟩
  · rw [if_neg (by omega), if_pos hrtc, rtcFieldOf_index f v hv]
  · rw [if_neg (by omega)]
    split
    · next hrtc =>
      rw [rtcFieldOf_none v (hnone.resolve_left (by simp [hrtc]))]
    · rfl

/-- The last window of `Mbc3`: 1 after 0 latches a clock, and the value is remembered (R547, R555). -/
theorem mbc3Write_latch (hlo : 0x6000 ≤ addr) :
    (c.hasRtc = true ∧ c.rtc.latchPrev = 0 ∧ v = 1 →
      mbc3Write c now addr v = { c with rtc := { c.rtc.latch now with latchPrev := 1 } }) ∧
    (c.hasRtc = false ∨ c.rtc.latchPrev ≠ 0 ∨ v ≠ 1 →
      mbc3Write c now addr v = { c with rtc := { c.rtc with latchPrev := v } }) := by
  have hcond : (c.hasRtc && c.rtc.latchPrev == 0 && v == 1) = true ↔
      c.hasRtc = true ∧ c.rtc.latchPrev = 0 ∧ v = 1 := by
    simp only [Bool.and_eq_true, beq_iff_eq, and_assoc]
  unfold mbc3Write
  rw [if_neg (by omega), if_neg (by omega), if_neg (by omega)]
  refine ⟨fun hlatch => ?_, fun hnone => ?_⟩
  · rw [if_pos (hcond.mpr hlatch), hlatch.2.2]
  · rw [if_neg fun h => ?_]
    obtain ⟨hrtc, hprev, hv⟩ := hcond.mp h
    simp [hrtc, hprev, hv] at hnone

end

/-! The ROM's windows. -/

section
variable {c : Cart} {addr : Nat}

/-- The two windows of `Mbc1` (R540). -/
theorem romOffset_mbc1 (hk : c.kind = .mbc1) :
    (addr < 0x4000 →
      romOffset c addr = romByteOffset c (if c.advanced = true then c.ramBank * 32 else 0) addr) ∧
    (0x4000 ≤ addr → romOffset c addr = romByteOffset c (c.ramBank * 32 ||| aliasBank c.romBank) (addr - 0x4000)) := by
  have hshift : c.ramBank <<< 5 = c.ramBank * 32 := Nat.shiftLeft_eq c.ramBank 5
  rw [romOffset, hk, hshift]
  exact ⟨fun h => if_pos h, fun h => if_neg (by omega)⟩

/-- The two windows of `Mbc3` and of `Mbc5`: bank 0, and the selected bank (R546, R549). -/
theorem romOffset_mbc3_mbc5 (hk : c.kind = .mbc3 ∨ c.kind = .mbc5) :
    (addr < 0x4000 → romOffset c addr = addr) ∧
    (0x4000 ≤ addr → romOffset c addr = romByteOffset c (aliasBank c.romBank) (addr - 0x4000)) := by
  have hzero : romByteOffset c 0 addr = addr := by simp [romByteOffset]
  rcases hk with hk | hk <;> rw [romOffset, hk]
  · exact ⟨fun h => (if_pos h).trans hzero, fun h => if_neg (by omega)⟩
  · exact ⟨fun h => (if_pos h).trans hzero, fun h => if_neg (by omega)⟩

end

/-! The RAM's window. -/

/-- The RAM window shows a byte of the bank the variant selects (R538, R545, R548, R551). -/
theorem cartWindow_ram {c : Cart} {bank : Nat} (off : Nat) (hsize : c.ramSize ≠ 0)
    (hbank : c.kind = .noMbc ∧ bank = 0 ∨
      c.ramEnabled = true ∧
        (c.kind = .mbc1 ∧ bank = (if c.advanced = true then c.ramBank else 0) ∨
          c.kind = .mbc3 ∧ c.rtc.select = none ∧ bank = c.ramBank ∨
          c.kind = .mbc5 ∧ bank = c.ramBank)) :
    cartWindow c off = .ram (ramByteIndex c bank off) := by
  obtain ⟨hk, rfl⟩ | ⟨hen, ⟨hk, rfl⟩ | ⟨hk, hsel, rfl⟩ | ⟨hk, rfl⟩⟩ := hbank
  · simp [cartWindow, hk, hsize]
  · simp [cartWindow, hk, hen, hsize]
  · simp [cartWindow, hk, hen, hsel, hsize]
  · simp [cartWindow, hk, hen, hsize]

/-- With a clock field selected, `Mbc3` shows it, with RAM or without (R548). -/
theorem cartWindow_clock {c : Cart} {f : RtcField} (off : Nat) (hk : c.kind = .mbc3) (hen : c.ramEnabled = true)
    (hsel : c.rtc.select = some f) : cartWindow c off = .clock f := by
  simp [cartWindow, hk, hen, hsel]

/-- Disabled or absent RAM shows nothing (R538, R545, R548, R551). -/
theorem cartWindow_nothing {c : Cart} (off : Nat)
    (h : c.kind ≠ .noMbc ∧ c.ramEnabled = false ∨ c.ramSize = 0 ∧ (c.kind ≠ .mbc3 ∨ c.rtc.select = none)) :
    cartWindow c off = .nothing := by
  obtain ⟨hk, hen⟩ | ⟨hsize, hclock⟩ := h
  · unfold cartWindow
    split
    · next hno => exact absurd hno hk
    all_goals simp [hen]
  · unfold cartWindow
    split
    case h_3 hmbc3 => simp [hsize, hclock.resolve_left (not_not_intro hmbc3)]
    all_goals simp [hsize]

section
variable (s : State) {a : Word} (hlo : 0xA000 ≤ a.toNat) (hhi : a.toNat < 0xC000)
include hlo hhi

theorem locate_window : locate s a = locateWindow s.cart (a.toNat - 0xA000) := by
  unfold locate
  dsimp only
  rw [if_neg (by omega), if_neg (by omega), if_pos hhi]

variable {s} (v : Byte)

theorem access_window_ram {i : Nat} (h : cartWindow s.cart (a.toNat - 0xA000) = .ram i) :
    memRead s a = Memory.read s.cart.ram i ∧
      memWrite s a v = { s with cart := { s.cart with ram := s.cart.ram.write i v } } := by
  rw [memRead, memWrite, locate_window s hlo hhi, locateWindow, h]
  exact ⟨rfl, rfl⟩

theorem access_window_clock {f : RtcField} (h : cartWindow s.cart (a.toNat - 0xA000) = .clock f) :
    memRead s a = s.cart.rtc.readField f ∧
      memWrite s a v = { s with cart := { s.cart with rtc := s.cart.rtc.writeField s.now f v } } := by
  rw [memRead, memWrite, locate_window s hlo hhi, locateWindow, h]
  exact ⟨rfl, rfl⟩

theorem access_window_nothing (h : cartWindow s.cart (a.toNat - 0xA000) = .nothing) :
    memRead s a = 0xFF ∧ memWrite s a v = s := by
  rw [memRead, memWrite, locate_window s hlo hhi, locateWindow, h]
  exact ⟨rfl, rfl⟩

end

/-- A clock field as read, in numbers (R556). -/
theorem Rtc.readField_dayHigh_toNat (r : Rtc) :
    (r.readField .dayHigh).toNat =
      (if r.latched.carry = true then 128 else 0) + (if r.latched.halt = true then 64 else 0) +
        r.latched.d / 256 % 2 := by
  have hbits : ∀ x y z : Bool, (bitAt x 7 ||| bitAt y 6 ||| bitAt z 0).toNat =
      (if x = true then 128 else 0) + (if y = true then 64 else 0) + z.toNat := by decide
  rw [Rtc.readField, hbits, Nat.toNat_testBit]

/-- Settles O39: window by window and variant by variant. -/
theorem bankSelectWrites : Obligations.BankSelectWrites := by
  intro s v
  refine ⟨fun a ha => ?writes, fun a ha => ?rom, fun a hlo hhi => ?window⟩
  case writes =>
    have honCart {c : Cart} (h : s.cart.bankWrite s.now a.toNat v = c) : memWrite s a v = { s with cart := c } := by
      rw [memWrite_below_8000 s ha, h]
    refine ⟨fun hk => ?_, fun hk haddr => ?_, fun hk => ?_, fun hk => ?_, fun hk => ?_⟩
    · exact honCart (by rw [Cart.bankWrite, hk])
    · exact honCart (Cart.bankWrite_enable hk haddr)
    · rw [Cart.bankWrite, hk] at honCart
      obtain ⟨hrom, hram, hmode⟩ := mbc1Write_windows (c := s.cart) (addr := a.toNat) (v := v)
      exact ⟨fun h1 h2 => honCart (hrom h1 h2), fun h1 h2 => honCart (hram h1 h2), fun h1 => honCart (hmode h1)⟩
    · rw [Cart.bankWrite, hk] at honCart
      refine ⟨fun h1 h2 => honCart (mbc3Write_romBank h1 h2), fun h1 h2 => ?_, fun h1 => ?_⟩
      · obtain ⟨hbank, hclock, hnone⟩ := mbc3Write_select (c := s.cart) (now := s.now) (v := v) h1 h2
        exact ⟨fun h => honCart (hbank h), fun f hrtc h => honCart (hclock f hrtc h), fun h h' => honCart (hnone h h')⟩
      · obtain ⟨hlatch, hkeep⟩ := mbc3Write_latch (c := s.cart) (now := s.now) (v := v) h1
        exact ⟨fun h => honCart (hlatch h), fun h => honCart (hkeep h)⟩
    · rw [Cart.bankWrite, hk] at honCart
      obtain ⟨hlow, hhigh, hram, hlast⟩ := mbc5Write_windows (c := s.cart) (addr := a.toNat) (v := v)
      exact ⟨fun h1 h2 => honCart (hlow h1 h2), fun h1 h2 => honCart (hhigh h1 h2), fun h1 h2 => honCart (hram h1 h2),
        fun h1 => honCart (hlast h1)⟩
  case rom =>
    refine ⟨fun hk => ?_, romOffset_mbc1, romOffset_mbc3_mbc5⟩
    rw [romOffset, hk]
  case window =>
    refine ⟨fun bank hsize hbank => ?_, fun f hk hen hsel => ?_, fun hnothing => ?_⟩
    · exact access_window_ram hlo hhi v (cartWindow_ram _ hsize hbank)
    · obtain ⟨hread, hwrite⟩ := access_window_clock hlo hhi v (cartWindow_clock _ hk hen hsel)
      refine ⟨?_, hwrite⟩
      rw [hread]
      cases f with
      | dayHigh => exact Rtc.readField_dayHigh_toNat _
      | _ => exact BitVec.toNat_ofNat _ _
    · exact access_window_nothing hlo hhi v (cartWindow_nothing _ hnothing)

end Sys2Proof.Machine
end
